-- ==== Sys2Proof/Word.lean ====
section
/-! DEFINITION. The word types of the FX-48 (00, Conventions: a word is 32 bits, a half 16). -/

namespace Sys2Proof

/-- A memory, report, record, status or setup word (00, Conventions). -/
abbrev Word := BitVec 32

/-- Half a word: sequences, checks and chain values (00, Conventions). -/
abbrev Half := BitVec 16

/-- One byte of memory (00, Conventions). -/
abbrev Byte := BitVec 8

end Sys2Proof
end

