-- ==== Sys2Proof/Syntax.lean ====
section
/-! DEFINITION. The commands of the block: one constructor per row of spec/opcode_table.json, with the
operands its rule names. -/

namespace Sys2Proof

/-- Access width in bytes: 1, 2 or 4 (R142). -/
inductive Width where
  | one | two | four
deriving DecidableEq, Repr

/-- The width of a narrow access: 1 or 2 bytes (00, Conventions). -/
inductive NarrowWidth where
  | one | two
deriving DecidableEq, Repr

/-- Direction of a host access (R142). -/
inductive Direction where
  | read | write
deriving DecidableEq, Repr

/-- One host access (R142). `data` is the 32-bit write data, of which the bytes that the width and the
address name are used; it has no meaning for a read. -/
structure HostAccess where
  addr  : BitVec 24
  width : Width
  dir   : Direction
  data  : Word
deriving DecidableEq, Repr

/-- How memory answers one word access (R144). `ok` and `fault` are R144's two answers. `corrupt w` is
an OK answer of a memory that went wrong unseen, which R133 and R134 foresee: a write stored `w`
instead of the word given, a read returned `w` instead of the word stored. DESIGN CHOICE, safe (log 2). -/
inductive MemAnswer where
  | ok
  | corrupt (w : Word)
  | fault
deriving DecidableEq, Repr

/-- The two allowance machines of a compartment (R41, R44). -/
inductive MachineName where
  | door | defrost
deriving DecidableEq, Repr

/-- Memory's answers when the reset line acts: to the access in progress, and to the accesses that the
host access taken by the filter still makes (R204, log 20). -/
structure ResetAnswers where
  inProgress : MemAnswer
  hostFirst  : MemAnswer
  hostSecond : MemAnswer
deriving DecidableEq, Repr

/-- How far a power return has come when main supply is lost during it (R201, R203): its step 1 done,
its step 2 done, its POWER record queued and a number of fallen deadlines taken, its step 5 done. -/
inductive ReturnPoint where
  | cleared
  | noted
  | deadlines (taken : Nat)
  | restartLatched
deriving DecidableEq, Repr

/-- A main supply loss during a power return (R203); `backupRestored` as in MAIN_SUPPLY_LOSS. -/
structure ReturnLoss where
  point : ReturnPoint
  backupRestored : Bool
deriving DecidableEq, Repr

/-- The end of a setup-load read (R167): memory's answer to it, and its answers to a held reset assertion
that acts when the load ends STARTING (R205, log 19). -/
structure LoadRead where
  answer : MemAnswer
  held   : ResetAnswers
deriving DecidableEq, Repr

/-- What the end of a stable wait and the STARTING that follows meet (R200). `intact` says that retained
memory still holds what the last operation left (log 15). During the STARTING of the step (log 33),
`arriving` are the host accesses that arrive, in order (R142, R201), `asserted` says that the reset input is
asserted (R203), and `loss` is a main supply loss during the power return (R203). `held` carries memory's
answers to a held reset assertion that acts when the return ends STARTING (R203, log 19). -/
structure WaitEnd where
  intact   : Bool
  arriving : List HostAccess
  asserted : Bool
  loss     : Option ReturnLoss
  held     : ResetAnswers
deriving DecidableEq, Repr

/-- The commands. A completion row carries memory's answer. A report row carries the report sequence,
the seven reserved header bits and the body (R214); the header's kind and length are the row's own. -/
inductive Instr where
  /-- HOST_ACCESS (R145). -/
  | hostAccess (acc : HostAccess)
  /-- PASS_THROUGH_READ (R147). -/
  | passThroughRead (m : MemAnswer)
  /-- PASS_THROUGH_WRITE (R148). -/
  | passThroughWrite (m : MemAnswer)
  /-- RMW_READ_DONE (R149). -/
  | rmwReadDone (m : MemAnswer)
  /-- RMW_WRITE_DONE (R149). -/
  | rmwWriteDone (m : MemAnswer)
  /-- SUPPRESSED_WRITE (R151). -/
  | suppressedWrite (m : MemAnswer)
  /-- REPORT_WINDOW_WRITE (R93). -/
  | reportWindowWrite (m : MemAnswer)
  /-- NARROW_WINDOW_WRITE (R100): a narrow write at a byte offset of the report window. -/
  | narrowWindowWrite (offset : BitVec 7) (width : NarrowWidth) (data : Word)
  /-- TIMED_OUT (R101). -/
  | timedOut
  /-- READING (R110): the body is 3, 5, 7 or 9 words. -/
  | reading (seq : Half) (rsv : BitVec 7) (body : List Word)
  /-- LOAD (R12). -/
  | load (seq : Half) (rsv : BitVec 7) (reference : BitVec 64) (placement : Word)
  /-- MOVE (R20). -/
  | move (seq : Half) (rsv : BitVec 7) (reference : BitVec 64) (target : Word)
  /-- WITHDRAW (R24). -/
  | withdraw (seq : Half) (rsv : BitVec 7) (reference : BitVec 64)
  /-- HANDOVER (R25), with the receiver code when the body has three words. -/
  | handover (seq : Half) (rsv : BitVec 7) (reference : BitVec 64) (receiver : Option Word)
  /-- ARRIVE (R47): a STOP report whose indication is ARRIVE. -/
  | arrive (seq : Half) (rsv : BitVec 7) (stopNumber : Half) (bodyRsv : BitVec 14)
  /-- DEPART (R47): a STOP report whose indication is DEPART. -/
  | depart (seq : Half) (rsv : BitVec 7) (stopNumber : Half) (bodyRsv : BitVec 14)
  /-- EXPORTED (R140): last exported record sequence s and new tail position p. -/
  | exported (seq : Half) (rsv : BitVec 7) (lastSeq newTail : Word)
  /-- EXPORT_CHECK_READ (R138). -/
  | exportCheckRead (m : MemAnswer)
  /-- TIME (R211): two words of host calendar time. -/
  | time (seq : Half) (rsv : BitVec 7) (calendarHigh calendarLow : Word)
  /-- QUERY (R114). -/
  | query (seq : Half) (rsv : BitVec 7) (reference : BitVec 64)
  /-- ACKNOWLEDGE (R187): the host writes `data` to status word 47. -/
  | acknowledge (data : Word)
  /-- CLEAR_COUNTERS (R189): an acknowledge with the clear-counters flag set, naming `causes`. -/
  | clearCounters (causes : BitVec 13)
  /-- LOAD_TRIGGER (R166): a full-word write to setup word 63 completes OK. -/
  | loadTrigger
  /-- SETUP_LOAD_READ (R167). -/
  | setupLoadRead (r : LoadRead)
  /-- WRITER_TAKE_ENTRY (R131). -/
  | writerTakeEntry
  /-- SPACE_FOUND (R131). -/
  | spaceFound
  /-- WRITER_WORD_WRITE (R132). -/
  | writerWordWrite (m : MemAnswer)
  /-- TRAILER_READ_BACK (R133). -/
  | trailerReadBack (m : MemAnswer)
  /-- STATUS_REWRITE (R179). -/
  | statusRewrite
  /-- STATUS_WORD_WRITE (R179). -/
  | statusWordWrite (m : MemAnswer)
  /-- STAGING_DEADLINE (R18) of the account in a slot. -/
  | stagingDeadline (slot : Nat)
  /-- GAP_DEADLINE (R64) of the account in a slot. -/
  | gapDeadline (slot : Nat)
  /-- GRACE_EXPIRY (R43) of one machine of a compartment. -/
  | graceExpiry (compartment : Nat) (machine : MachineName)
  /-- RECOVERY_EXPIRY (R43) of one machine of a compartment. -/
  | recoveryExpiry (compartment : Nat) (machine : MachineName)
  /-- EXPECTED_ARRIVAL_DEADLINE (R53). -/
  | expectedArrivalDeadline
  /-- MAIN_SUPPLY_LOSS (R196). `backupRestored` says that the backup supply came back after an earlier
  BACKUP_SUPPLY_LOSS (log 16). -/
  | mainSupplyLoss (backupRestored : Bool)
  /-- BACKUP_SUPPLY_LOSS (R197). -/
  | backupSupplyLoss
  /-- MAIN_SUPPLY_RETURN (R200). -/
  | mainSupplyReturn
  /-- STABLE_WAIT_COMPLETE (R200). -/
  | stableWaitComplete (w : WaitEnd)
  /-- RESET_ASSERT (R204), with memory's answers in the order of `ResetAnswers` (log 20). -/
  | resetAssert (inProgress hostFirst hostSecond : MemAnswer)
  /-- RESET_RELEASE (R204). -/
  | resetRelease
  /-- LOG_SCAN_READ (R208). -/
  | logScanRead (m : MemAnswer)
  /-- CHILL_CLOCK_ADVANCE (R193). -/
  | chillClockAdvance
deriving DecidableEq, Repr

end Sys2Proof
end

