-- ==== Sys2Proof/Decode.lean ====
section
/-! DEFINITION. The command a word spells by the bits of spec/opcode_table.json. The block has no
encoded commands: no row of the table gives bits, so no word spells a command. -/

namespace Sys2Proof

/-- No row of spec/opcode_table.json gives fixed bits or fields, so every word is refused. -/
def decodeTableWord (_nbits _w : Nat) : Option Instr := none

end Sys2Proof
end

