-- ==== Sys2Proof/Machine/Types.lean ====
section
/-! DEFINITION. The plain data of each block of the part, with the names of the spec. -/

namespace Sys2Proof.Machine

/-! ## Account table (01) -/

/-- Causes of UNPROVEN (R1). -/
inductive UnprovenCause where
  | gap | staging | recordLost
deriving DecidableEq, Repr

/-- Causes of BROKEN (R1). -/
inductive BrokenCause where
  | hardLimit | dose | duration
deriving DecidableEq, Repr

/-- A verdict with its cause, absent while CLEAN (R1). -/
inductive Verdict where
  | clean
  | unproven (cause : UnprovenCause)
  | broken (cause : BrokenCause)
deriving DecidableEq, Repr

/-- The current excursion (R76). -/
structure Excursion where
  start : Nat
  peak : Nat
  allowed : Nat
  brk : Nat
  unallowed : Nat
deriving DecidableEq, Repr

/-- What an entry aboard carries in every lifecycle (R1). -/
structure Consignment where
  reference : BitVec 64
  compartment : Nat
  band : Nat
  verdict : Verdict
deriving DecidableEq, Repr

/-- Open time and opening record sequence (R1, R17). -/
structure Opening where
  time : Nat
  recordSeq : Option Word
deriving DecidableEq, Repr

/-- Totals and peaks of an opened account (R1, R9). -/
structure Totals where
  breakDose : Nat
  allowanceDose : Nat
  gap : Nat
  excursions : Nat
  peakWarm : Option Int
  peakCold : Option Int
deriving DecidableEq, Repr

/-- What a TRACKED entry carries besides (R1). The condition is OUT_OF_BAND exactly while an excursion
is present (R76). -/
structure Tracking where
  opening : Opening
  excursion : Option Excursion
  totals : Totals
  lastGood : Nat
  gapDeadline : Option Nat
deriving DecidableEq, Repr

/-- An account entry by its lifecycle (R1): a field exists only where R1 gives it a meaning. A CLOSING
entry closed from STAGED has no opening and totals of 0 (R26). -/
inductive Entry where
  | free
  | staged (c : Consignment) (deadline : Nat)
  | tracked (c : Consignment) (t : Tracking)
  | closing (c : Consignment) (opening : Option Opening) (totals : Totals)
deriving DecidableEq, Repr

/-! ## Compartments and stop state (02) -/

/-- Probe mode (R30, R35). -/
inductive ProbeMode where
  | dual | singleA | singleB | none
deriving DecidableEq, Repr

/-- The effective reading: warm value and cold value (R35). -/
structure Effective where
  warm : Int
  cold : Int
deriving DecidableEq, Repr

/-- Doubt cause (R30). -/
inductive DoubtCause where
  | disagree | absent
deriving DecidableEq, Repr

/-- Door value (R40). -/
inductive Door where
  | unknown | closed | opened
deriving DecidableEq, Repr

/-- Unit value (R40). -/
inductive UnitState where
  | unknown | running | defrost | off
deriving DecidableEq, Repr

/-- An allowance machine with its expiry time in GRACE and RECOVERY (R30, R41). -/
inductive Allowance where
  | idle
  | grace (expiry : Nat)
  | expired
  | recovery (expiry : Nat)
deriving DecidableEq, Repr

/-- The compartment record (R30). -/
structure Compartment where
  bFitted : Bool
  probeA : Option Int
  probeB : Option Int
  mode : ProbeMode
  effective : Option Effective
  lastPresent : Option Nat
  disagreeRun : Nat
  absenceRun : Nat
  trustRun : Nat
  doubt : Option DoubtCause
  door : Door
  unit : UnitState
  doorMachine : Allowance
  defrostMachine : Allowance
  unitOff : Bool
deriving DecidableEq, Repr

/-! ## Cadence (03) -/

/-- Cadence state (R50). -/
inductive CadenceState where
  | acquire | confirm | locked | lost
deriving DecidableEq, Repr

/-- The cadence tracker (R50). -/
structure Cadence where
  state : CadenceState
  deadline : Option Nat
  miss : Nat
  lastSeq : Option Half
  lostStanding : Bool
deriving DecidableEq, Repr

/-! ## Reports (05) -/

/-- The nine report kinds (R94). -/
inductive ReportKind where
  | reading | load | move | handover | withdraw | stop | exported | time | query
deriving DecidableEq, Repr

/-- A complete report: header fields and body words (R94, R214). -/
structure Report where
  seq : Half
  kind : ReportKind
  rsv : BitVec 7
  body : List Word
deriving DecidableEq, Repr

/-- The report under assembly (R96). `words` are the words fed after the header, so the expected offset
is `words.length + 1`. `deadline` counts 1/64 seconds of the chill clock. -/
structure Collecting where
  header : Word
  kind : ReportKind
  words : List Word
  deadline : Nat
deriving DecidableEq, Repr

/-- The report assembler with the two hand-over places (R96). COLLECTING exactly while `collecting` is
present. -/
structure Assembler where
  collecting : Option Collecting
  waiting : Option Report
  handling : Option Report
deriving DecidableEq, Repr

/-- Refusal reasons of reports (R106). -/
inductive ReportRefusal where
  | badHeader | overtaken | outOfOrder | narrowWrite | checkFailed | timedOut | notReady | badField
  | unknownConsignment | duplicate | tableFull | wrongState | queueFull | stale | badExport
deriving DecidableEq, Repr

/-- Result of a report (R107). NONE is the absence of one. -/
inductive ReportResult where
  | taken
  | refused (reason : ReportRefusal)
deriving DecidableEq, Repr

/-- The recorded-through mark (R108): a place in the queue, counted from the front, and a sequence. -/
structure Mark where
  index : Nat
  seq : Half
deriving DecidableEq, Repr

/-- The receipt and its mark (R107, R108). -/
structure Receipt where
  latest : Option (Half × ReportResult)
  recordedThrough : Option Half
  mark : Option Mark
deriving DecidableEq, Repr

/-! ## Evidence queue and log (06) -/

/-- Cause of a GAP record (R62). -/
inductive GapCause where
  | missed | power
deriving DecidableEq, Repr

/-- Retained outcome of a cold start (R199). -/
inductive ColdOutcome where
  | none | lost
deriving DecidableEq, Repr

/-- The body of a record, by kind (R127, R215). The opening record sequence of CLOSED is filled at
assembly (R26) and is no part of the entry (R116). -/
inductive RecordBody where
  | loaded (reference : BitVec 64) (slot compartment band : Nat) (reportSeq : Half)
  | opened (reference : BitVec 64) (slot compartment band : Nat) (verdict : Verdict)
      (effective : Option Effective)
  | excursion (reference : BitVec 64) (start finish peak allowed brk : Nat)
      (wholly partly byHandover : Bool)
  | moved (reference : BitVec 64) (origin target : Nat)
  | verdict (reference : BitVec 64) (verdict : Verdict) (breakDose gapTotal : Nat)
  | closed (reference : BitVec 64) (verdict : Verdict) (openTime : Option Nat)
      (totals : Totals) (receiver : Option Word)
  | withdrawn (reference : BitVec 64)
  | gap (compartment fromTime toTime : Nat) (cause : GapCause)
  | stop (number : Half) (arrive : Bool)
  | doubt (compartment : Nat) (raised : Bool) (cause : DoubtCause) (probeA probeB : Option Int)
  | loss (count first last : Nat)
  | power (lossTime returnTime : Nat)
  | reset (assertion : Nat)
  | coldStart (highest : Option (Word × Half)) (found : Nat) (outcome : ColdOutcome)
  | setup (check : Half) (logBase logSize : Nat) (relocated : Bool)
  | time (high low : Word)
deriving DecidableEq, Repr

/-- An entry of the evidence queue (R116): `slot` for a record of an account. The compartment of a GAP
or DOUBT record stands in its body. -/
structure QEntry where
  time : Nat
  slot : Option Nat
  body : RecordBody
deriving DecidableEq, Repr

/-- Pending-loss count with first and last loss time (R118): present while the count is not 0. -/
structure PendingLoss where
  count : Nat
  first : Nat
  last : Nat
deriving DecidableEq, Repr

/-- The evidence queue, front first (R116), and the loss state (R118). -/
structure EvidenceQueue where
  entries : List QEntry
  loss : Option PendingLoss
deriving DecidableEq, Repr

/-- Log pointers and next record sequence (R122, R129). -/
structure LogState where
  head : Nat
  tail : Nat
  used : Nat
  nextSeq : Word
deriving DecidableEq, Repr

/-- Log writer state (R130). WRITING and VERIFYING carry the assembled record and its pending chain
value; WRITING also the number of words written. -/
inductive WriterState where
  | idle
  | waitingSpace
  | writing (record : List Word) (chain : Half) (written : Nat)
  | verifying (record : List Word) (chain : Half)
  | halted
deriving DecidableEq, Repr

/-- The log writer (R130). `log` is absent until the log scan sets it (R206, R207). `nearFull` is the
standing of LOG_NEAR_FULL (R124). -/
structure Writer where
  state : WriterState
  log : Option LogState
  chain : Half
  nearFull : Bool
deriving DecidableEq, Repr

/-! ## Ports and arbiter (07) -/

/-- Reasons of a rejected access (R155). -/
inductive RejectReason where
  | misaligned | beyondCapacity | narrowWindow | logProtected | statusProtected | setupLocked
  | memoryFault
deriving DecidableEq, Repr

/-- The last rejected access (R155). -/
structure Rejected where
  addr : BitVec 24
  width : Width
  dir : Direction
  reason : RejectReason
  time : Nat
deriving DecidableEq, Repr

/-- What the filter decided for an access that needs memory (R145, R147 to R151). The judgement stands
for the rest of the access. -/
inductive HostJob where
  | read
  | write
  | windowWrite (offset : Nat)
  | rmwRead
  | rmwWrite (merged : Word)
  | suppressed (reason : RejectReason)
deriving DecidableEq, Repr

/-- Where the carried access stands (R142): held unjudged, or judged and at memory. -/
inductive AccessPhase where
  | held
  | atMemory (job : HostJob)
deriving DecidableEq, Repr

/-- The access the upstream port carries (R142). -/
structure Carried where
  acc : HostAccess
  phase : AccessPhase
deriving DecidableEq, Repr

/-- The port's answer to one access (R142): the bytes a read names, lowest address first (R147), OK to
a write, or ERROR. -/
inductive Response where
  | readOk (bytes : List Byte)
  | writeOk
  | error
deriving DecidableEq, Repr

/-- One access answered. -/
structure Answer where
  acc : HostAccess
  response : Response
deriving DecidableEq, Repr

/-- The upstream port (R142): the access carried, the accesses waiting behind it, and the answers given,
newest first (the port's output, DESIGN CHOICE, log 13). -/
structure Port where
  current : Option Carried
  behind : List HostAccess
  answers : List Answer
deriving DecidableEq, Repr

/-- Clients of the internal reader (R159). -/
inductive ReaderClient where
  | setupLoader | logScanner | exportCheck
deriving DecidableEq, Repr

/-- The requester whose memory access is in progress (R156). -/
inductive Owner where
  | upstream
  | writer
  | reader (client : ReaderClient)
  | status
deriving DecidableEq, Repr

/-- Who may hold a lockout (R156). -/
inductive Lockout where
  | writer | upstream
deriving DecidableEq, Repr

/-- The memory arbiter (R156): requests waiting are the four last fields; the reader's are in the order
its clients asked (R159). -/
structure Arbiter where
  owner : Option Owner
  lockout : Option Lockout
  fairness : Nat
  upstream : Bool
  writer : Bool
  reader : List ReaderClient
  status : Bool
deriving DecidableEq, Repr

/-! ## Setup loader (08) -/

/-- A setup block: words 0 to 63 (R162). Its fields are read by the accessors of Machine/Operands. -/
structure Setup where
  words : List Word
deriving DecidableEq, Repr

/-- Rejection reasons of a setup (R169). -/
inductive SetupReject where
  | memoryFault | marker | check | capacity | region | timing | band | reserved | logInUse
deriving DecidableEq, Repr

/-- Last setup result (R162). -/
inductive SetupResult where
  | none
  | inFlight
  | accepted
  | rejected (reason : SetupReject)
  | abandoned
deriving DecidableEq, Repr

/-- The setup loader (R162). `load` is the working copy, present exactly while the load-in-flight flag
is raised; its length is the read position. `heldRecord`: the SETUP record is held (R174). -/
structure SetupLoader where
  inForce : Option Setup
  lastResult : SetupResult
  load : Option (List Word)
  heldRecord : Bool
deriving DecidableEq, Repr

/-! ## Log scanner (10) -/

/-- A valid record noted by the scan (R208). -/
structure Found where
  position : Nat
  seq : Word
  length : Nat
  chain : Half
deriving DecidableEq, Repr

/-- The log scanner (R208): scan position, the words of the candidate read so far (empty between
candidates), whether one of them was read FAULT, and what was noted. -/
structure Scanner where
  position : Nat
  words : List Word
  spoiled : Bool
  highest : Option Found
  lowest : Option Found
  count : Nat
deriving DecidableEq, Repr

/-! ## Status updater and alert unit (09) -/

/-- The 13 alert causes (R183, R184), in the order of R216. -/
inductive Cause where
  | broken | unproven | recordLost | writerFault | protectViolation | reportRefused | setupRejected
  | restart | cadenceLost | probeDoubt | unitOff | logNearFull | logFull
deriving DecidableEq, Repr

/-- The five counters (R189). -/
structure Counters where
  refusedReports : Nat
  protectViolations : Nat
  accessErrors : Nat
  missedReadings : Nat
  lostRecords : Nat
deriving DecidableEq, Repr

/-- The echo of the last acknowledge (R187). -/
structure Echo where
  clear : Bool
  causes : BitVec 13
deriving DecidableEq, Repr

/-- The account view (R191): the entry as it stood when the QUERY was taken (R192). -/
structure View where
  seq : Half
  slot : Nat
  entry : Entry
deriving DecidableEq, Repr

/-- The alert unit (09). -/
structure Alert where
  latched : BitVec 13
  counters : Counters
  echo : Option Echo
  view : Option View
  line : Bool
deriving DecidableEq, Repr

/-- A rewrite of the status block (R179): asked for and not yet granted, or its snapshot and the number
of words written. -/
inductive Rewrite where
  | requested
  | writing (picture : List Word) (written : Nat)
deriving DecidableEq, Repr

/-- The status updater (R179, R182). -/
structure StatusUpdater where
  gen : Word
  demand : Bool
  rewrite : Option Rewrite
deriving DecidableEq, Repr

/-! ## Chill clock and supply monitor (10) -/

/-- The chill clock (R193). -/
structure Clock where
  seconds : Nat
  sub : Nat
deriving DecidableEq, Repr

/-- What STARTING is waiting for: the cold-start load, or the release of the reset input (R195). A
power return proper passes through STARTING within STABLE_WAIT_COMPLETE (log 33). -/
inductive StartVia where
  | coldLoad | resetLine
deriving DecidableEq, Repr

/-- The part state (R195). `opened` is OPEN. -/
inductive PartState where
  | starting (via : StartVia)
  | opened
  | scanning
  | running
  | retain
deriving DecidableEq, Repr

/-- The last power-loss interval (R196, R201). -/
structure PowerLoss where
  loss : Nat
  ret : Option Nat
deriving DecidableEq, Repr

/-- The supply monitor (R195 to R200, R204): part state, supply and reset lines, the assertion time of
the reset in progress, and its marks in the backup domain. -/
structure Supply where
  part : PartState
  mainPresent : Bool
  backupPresent : Bool
  stableWait : Bool
  resetPin : Bool
  resetTime : Option Nat
  domainHeld : Bool
  retainedValid : Bool
  retainedCheck : Half
  coldOutcome : Option ColdOutcome
  powerLoss : Option PowerLoss
deriving DecidableEq, Repr

/-- The retained part of a compartment record (R32, R198). -/
structure RetainedCompartment where
  bFitted : Bool
  probeA : Option Int
  probeB : Option Int
  mode : ProbeMode
  effective : Option Effective
  lastPresent : Option Nat
  doubt : Option DoubtCause
  unitOff : Bool
deriving DecidableEq, Repr

/-- The retained state of R198, less the retained check itself. -/
structure Retained where
  accounts : List Entry
  compartments : List RetainedCompartment
  stop : Option Half
  queue : EvidenceQueue
  writerState : WriterState
  log : Option LogState
  chain : Half
  setupInForce : Option Setup
  setupResult : SetupResult
  latched : BitVec 13
  counters : Counters
  gen : Word
  powerLoss : Option PowerLoss
  retainedValid : Bool
deriving DecidableEq, Repr

end Sys2Proof.Machine
end

