-- ==== Sys2Proof/Config.lean ====
section
/-! DEFINITION. The free values: what the spec leaves open. Each is a constant with no body, so no proof
can see what it is. The ones over `Nat` are applied to the counter `State.free`, which a draw advances. -/

namespace Sys2Proof

/-- The word memory holds after a write that ended FAULT (R144, log 3). -/
opaque Config.faultWord : Nat → Word

/-- A bit: whether a write abandoned by a supply loss stored its word (R143, log 4); the level of the
alert line when the backup domain is lost (log 17). -/
opaque Config.freeBit : Nat → Bool

/-- A choice among deadlines that fell in the same second (R202, log 11). -/
opaque Config.freeChoice : Nat → Nat

/-- The words of retained memory that the retained check covers (R198, R212): their layout is inside
the part and not given (log 15). -/
opaque Config.retainedWords : Machine.Retained → List Word

end Sys2Proof
end

