-- ==== Sys2Proof/Machine/Check.lean ====
section
/-! DEFINITION. The check register and its feeding procedure (00, Check codes; R212). -/

namespace Sys2Proof.Machine

/-- Feed one bit (R212): shift left, and exclusive-or with 0x8005 if the outgoing bit differs from the
bit fed. -/
def feedBit (r : Half) (b : Bool) : Half :=
  if r.getLsbD 15 != b then (r <<< 1) ^^^ 0x8005#16 else r <<< 1

/-- Feed one word: bytes 31 to 24 first, each byte bit 7 first, so bit 31 down to bit 0 (R212). -/
def feedWord (r : Half) (w : Word) : Half :=
  (List.range 32).foldl (fun r i => feedBit r (w.getLsbD (31 - i))) r

/-- Feed words in order (R212). -/
def feedWords (r : Half) (ws : List Word) : Half := ws.foldl feedWord r

/-- The register at the beginning of a covered span (R212). -/
def checkStart : Half := 0xFFFF#16

/-- The check of a span: the ones' complement of the register after its last word (R212). -/
def spanCheck (ws : List Word) : Half := ~~~ (feedWords checkStart ws)

end Sys2Proof.Machine
end

