-- ==== Sys2Proof/Machine/State.lean ====
section
/-! DEFINITION. The state of the part, the reasons a step could stop, and the state after reset. -/

namespace Sys2Proof.Machine

/-- Reasons to stop with a fault: none. The spec describes no event that stops the part; a FAULT of
memory is an answer the part acts on (R134, R139, R154, R167, R181, R208). Safe and unsafe do not arise. -/
inductive Fault where
deriving DecidableEq, Repr

/-- Reasons to refuse a command. -/
inductive Refusal where
  /-- A command without a meaning yet, raised by an arm of `exec`; safe: the model stops. No arm does. -/
  | notModelled (mnemonic : String)
deriving DecidableEq, Repr

/-- The evidence memory: bytes by address, in the canonical form of `Mem.wf` (Machine/Memory). -/
abbrev Mem := List Host.Cell

/-- Everything the spec gives the machine (INVENTORY.md, State), the queue of commands, and the counter
of free values. -/
structure State where
  pending : List Instr
  free : Nat
  clock : Clock
  supply : Supply
  mem : Mem
  accounts : List Entry
  compartments : List Compartment
  stop : Option Half
  cadence : Cadence
  assembler : Assembler
  receipt : Receipt
  queue : EvidenceQueue
  writer : Writer
  setup : SetupLoader
  scanner : Option Scanner
  alert : Alert
  status : StatusUpdater
  arbiter : Arbiter
  port : Port
  rejected : Option Rejected
deriving DecidableEq, Repr

/-- The retained part of a compartment record (R30, R198): all but door, unit, machines and runs. -/
def Compartment.retained (c : Compartment) : RetainedCompartment :=
  { bFitted := c.bFitted, probeA := c.probeA, probeB := c.probeB, mode := c.mode,
    effective := c.effective, lastPresent := c.lastPresent, doubt := c.doubt,
    unitOff := c.unitOff }

/-- The retained state of R198, less the retained check. -/
def State.retained (s : State) : Retained :=
  { accounts := s.accounts, compartments := s.compartments.map Compartment.retained,
    stop := s.stop, queue := s.queue, writerState := s.writer.state, log := s.writer.log,
    chain := s.writer.chain, setupInForce := s.setup.inForce, setupResult := s.setup.lastResult,
    latched := s.alert.latched, counters := s.alert.counters, gen := s.status.gen,
    powerLoss := s.supply.powerLoss, retainedValid := s.supply.retainedValid }

/-- The check over the retained state (R198, R212). -/
def State.retainedCheckNow (s : State) : Half := spanCheck (Config.retainedWords s.retained)

/-- The retained check is brought up to date at the end of an operation (R198). -/
def State.seal (s : State) : State :=
  { s with supply := { s.supply with retainedCheck := s.retainedCheckNow } }

/-- The state right after the cold-start clearing step at the first application of power, with the
cold-start load triggered and its first read granted (R206, R166, R157). Lines and outputs the spec
gives no value for are as log 18 names them; memory lists nothing (log 1). -/
def State.reset : State := State.seal
  { pending := []
    free := 0
    clock := { seconds := 0, sub := 0 }
    supply :=
      { part := .starting .coldLoad, mainPresent := true, backupPresent := true, stableWait := false,
        resetPin := false, resetTime := none, domainHeld := true, retainedValid := false,
        retainedCheck := 0, coldOutcome := some .none, powerLoss := none }
    mem := []
    accounts := List.replicate 48 .free
    compartments := []
    stop := none
    cadence :=
      { state := .acquire, deadline := none, miss := 0, lastSeq := none, lostStanding := false }
    assembler := { collecting := none, waiting := none, handling := none }
    receipt := { latest := none, recordedThrough := none, mark := none }
    queue := { entries := [], loss := none }
    writer := { state := .idle, log := none, chain := checkStart, nearFull := false }
    setup := { inForce := none, lastResult := .inFlight, load := some [], heldRecord := false }
    scanner := none
    alert :=
      { latched := 0,
        counters :=
          { refusedReports := 0, protectViolations := 0, accessErrors := 0, missedReadings := 0,
            lostRecords := 0 },
        echo := none, view := none, line := false }
    status := { gen := 0, demand := false, rewrite := none }
    arbiter :=
      { owner := some (.reader .setupLoader), lockout := none, fairness := 0, upstream := false,
        writer := false, reader := [], status := false }
    port := { current := none, behind := [], answers := [] }
    rejected := none }

end Sys2Proof.Machine
end

