-- ==== Sys2Proof/Machine/Memory.lean ====
section
/-! DEFINITION. The evidence memory: bytes by address in one canonical form, and the word accesses built
from them (R144). -/

namespace Sys2Proof.Machine

/-- What an address nothing has written reads as. DESIGN CHOICE, unsafe (log 1). -/
def Mem.unlisted : Byte := 0

/-- The byte at an address. -/
def Mem.readByte : Mem → Nat → Byte
  | [], _ => Mem.unlisted
  | (b, v) :: m, a => if b = a then v else Mem.readByte m a

/-- Put a byte at an address, keeping addresses rising and listing no unlisted value. -/
def Mem.writeByte : Mem → Nat → Byte → Mem
  | [], a, x => if x = Mem.unlisted then [] else [(a, x)]
  | (b, v) :: m, a, x =>
    if a < b then (if x = Mem.unlisted then (b, v) :: m else (a, x) :: (b, v) :: m)
    else if a = b then (if x = Mem.unlisted then m else (a, x) :: m)
    else (b, v) :: Mem.writeByte m a x

/-- The canonical form from an address bound on: addresses strictly rising, no entry equal to what an
unlisted address reads as. -/
def Mem.wfFrom : Nat → Mem → Bool
  | _, [] => true
  | lo, (a, v) :: m => decide (lo ≤ a) && (v != Mem.unlisted) && Mem.wfFrom (a + 1) m

/-- The canonical form. -/
def Mem.wf (m : Mem) : Bool := Mem.wfFrom 0 m

/-- The word address of the word that holds a byte address (00, Conventions). -/
def wordAddress (a : Nat) : Nat := a / 4 * 4

/-- The byte of a word at offset 0 to 3: the byte at the lowest address is the most significant (R147). -/
def byteOf (w : Word) (k : Nat) : Byte := (w >>> (24 - 8 * k)).setWidth 8

/-- Read a whole word at a word address (R144, R147). -/
def Mem.readWord (m : Mem) (a : Nat) : Word :=
  m.readByte a ++ m.readByte (a + 1) ++ m.readByte (a + 2) ++ m.readByte (a + 3)

/-- Store a whole word at a word address (R144, R147). -/
def Mem.writeWord (m : Mem) (a : Nat) (w : Word) : Mem :=
  (((m.writeByte a (byteOf w 0)).writeByte (a + 1) (byteOf w 1)).writeByte (a + 2)
    (byteOf w 2)).writeByte (a + 3) (byteOf w 3)

/-- A word read at the memory port (R144): the word returned, or none on FAULT. -/
def State.memRead (s : State) (m : MemAnswer) (a : Nat) : Option Word :=
  match m with
  | .ok => some (s.mem.readWord a)
  | .corrupt w => some w
  | .fault => none

/-- A word write at the memory port (R144): after OK the word is stored; after FAULT the word is in
whatever state memory gives it, a free value (log 3). -/
def State.memWrite (s : State) (m : MemAnswer) (a : Nat) (w : Word) : State :=
  match m with
  | .ok => { s with mem := s.mem.writeWord a w }
  | .corrupt x => { s with mem := s.mem.writeWord a x }
  | .fault => { s with mem := s.mem.writeWord a (Config.faultWord s.free), free := s.free + 1 }

/-- A write abandoned at the memory port by a supply loss: the word holds its old contents or the new
word, a free value (R143, R149, log 4). -/
def State.memAbandon (s : State) (a : Nat) (w : Word) : State :=
  if Config.freeBit s.free then { s with mem := s.mem.writeWord a w, free := s.free + 1 }
  else { s with free := s.free + 1 }

end Sys2Proof.Machine

namespace Sys2Proof

/-- Did the access complete OK (R144)? -/
def MemAnswer.isOk : MemAnswer → Bool
  | .ok => true
  | .corrupt _ => true
  | .fault => false

end Sys2Proof
end

