-- ==== Sys2Proof/Machine/Operands.lean ====
section
/-! DEFINITION. Fields of words: saturating quantities, the setup block (R163 to R165, R217), report
headers and bodies (R214), host accesses (R147), and the words of records (R215). -/

namespace Sys2Proof.Machine

/-! ## Quantities -/

/-- The largest value of a 32-bit quantity: time, dose, gap (00, Measured quantities). -/
def maxWord : Nat := 4294967295

/-- Addition that takes the maximum where it would exceed it (00, Measured quantities). -/
def satAdd (a b : Nat) : Nat := min (a + b) maxWord

/-- A counter's addition, saturating at 65,535 (R189). -/
def counterAdd (a b : Nat) : Nat := min (a + b) 65535

/-- `b` is newer than `a`: (b - a) modulo 65536 lies from 1 to 32767 (00, Sequence numbers). -/
def newer (b a : Half) : Bool := 1 ≤ (b - a).toNat && (b - a).toNat ≤ 32767

/-- Bits `hi` to `lo` of a word as a number. -/
def bits (w : Word) (hi lo : Nat) : Nat := (w.extractLsb hi lo).toNat

/-- A temperature field: signed, 16 bits, in bits `lo + 15` to `lo` (R212, chapter 11). -/
def signedHalf (w : Word) (lo : Nat) : Int := (w.extractLsb' lo 16).toInt

/-- A temperature is present from -500 to +700 (R34; 00, Measured quantities). -/
def presentTemp (t : Int) : Option Int := if -500 ≤ t ∧ t ≤ 700 then some t else none

/-! ## Setup block fields (R217) -/

/-- Word `i` of a setup block. -/
def Setup.word (c : Setup) (i : Nat) : Word := c.words.getD i 0

/-- Capacity in steps of 1 MiB. -/
def Setup.capacity (c : Setup) : Nat := bits (c.word 1) 4 0

/-- First byte address at or above capacity (R146, R170). -/
def Setup.capacityBytes (c : Setup) : Nat := c.capacity * 1048576

/-- Status block base. -/
def Setup.statusBase (c : Setup) : Nat := bits (c.word 2) 23 0

/-- Report window base. -/
def Setup.windowBase (c : Setup) : Nat := bits (c.word 3) 23 0

/-- Log base. -/
def Setup.logBase (c : Setup) : Nat := bits (c.word 4) 23 0

/-- Log size in words. -/
def Setup.logSize (c : Setup) : Nat := bits (c.word 5) 22 0

/-- Near-full threshold in words. -/
def Setup.nearFull (c : Setup) : Nat := bits (c.word 6) 22 0

/-- Compartment count. -/
def Setup.count (c : Setup) : Nat := bits (c.word 7) 2 0

/-- Is probe B fitted in compartment `k`? -/
def Setup.bFitted (c : Setup) (k : Nat) : Bool := (c.word 7).getLsbD (8 + k)

/-- Reading period in seconds. -/
def Setup.period (c : Setup) : Nat := bits (c.word 8) 31 16

/-- Cadence window in seconds. -/
def Setup.window (c : Setup) : Nat := bits (c.word 8) 15 0

/-- Gap limit in seconds. -/
def Setup.gapLimit (c : Setup) : Nat := bits (c.word 9) 31 16

/-- Staging limit in seconds. -/
def Setup.stagingLimit (c : Setup) : Nat := bits (c.word 9) 15 0

/-- Probe tolerance in tenths. -/
def Setup.tolerance (c : Setup) : Nat := bits (c.word 10) 15 8

/-- Doubt count in readings. -/
def Setup.doubtCount (c : Setup) : Nat := bits (c.word 10) 7 0

/-- Stop grace in seconds. -/
def Setup.stopGrace (c : Setup) : Nat := bits (c.word 11) 31 16

/-- Away grace in seconds. -/
def Setup.awayGrace (c : Setup) : Nat := bits (c.word 11) 15 0

/-- Defrost grace in seconds. -/
def Setup.defrostGrace (c : Setup) : Nat := bits (c.word 12) 31 16

/-- Recovery allowance in seconds. -/
def Setup.recovery (c : Setup) : Nat := bits (c.word 12) 15 0

/-- Alert mask, in the cause order of R216. -/
def Setup.mask (c : Setup) : BitVec 13 := (c.word 13).extractLsb' 0 13

/-- Setup check value: bits 15 to 0 of word 63 (R165, R217). -/
def Setup.checkValue (c : Setup) : Half := (c.word 63).extractLsb' 0 16

/-- A band class (R67, R164). -/
structure Band where
  low : Int
  high : Int
  hardLow : Int
  hardHigh : Int
  doseBudget : Nat
  allowanceBudget : Nat
  timeLimit : Nat
  enabled : Bool
deriving DecidableEq, Repr

/-- Band class `k`: words 16 + 5k to 20 + 5k (R164, R217). -/
def Setup.band (c : Setup) (k : Nat) : Band :=
  { low := signedHalf (c.word (16 + 5 * k)) 16
    high := signedHalf (c.word (16 + 5 * k)) 0
    hardLow := signedHalf (c.word (17 + 5 * k)) 16
    hardHigh := signedHalf (c.word (17 + 5 * k)) 0
    doseBudget := (c.word (18 + 5 * k)).toNat
    allowanceBudget := (c.word (19 + 5 * k)).toNat
    timeLimit := bits (c.word (20 + 5 * k)) 16 0
    enabled := (c.word (20 + 5 * k)).getLsbD 31 }

/-- The setup in force, read as an empty block while none is (R162). -/
def State.cfg (s : State) : Setup := s.setup.inForce.getD { words := [] }

/-- Period + window: the longest spacing that on-time readings may have (chapter 03). -/
def Setup.reach (c : Setup) : Nat := c.period + c.window

/-! ## Report words (R214) -/

/-- The kind coded in bits 15 to 12 of a header; none for an unknown kind. -/
def kindOfCode (k : Nat) : Option ReportKind :=
  match k with
  | 1 => some .reading
  | 2 => some .load
  | 3 => some .move
  | 4 => some .handover
  | 5 => some .withdraw
  | 6 => some .stop
  | 7 => some .exported
  | 8 => some .time
  | 9 => some .query
  | _ => none

/-- Report sequence of a header. -/
def headerSeq (h : Word) : Half := h.extractLsb' 16 16

/-- Reserved bits 11 to 5 of a header. -/
def headerRsv (h : Word) : BitVec 7 := h.extractLsb' 5 7

/-- Body length of a header. -/
def headerLength (h : Word) : Nat := bits h 4 0

/-- The body length lies in the kind's range (R94). -/
def lengthInRange (k : ReportKind) (n : Nat) : Bool :=
  match k with
  | .reading => n == 3 || n == 5 || n == 7 || n == 9
  | .load => n == 3
  | .move => n == 3
  | .handover => n == 2 || n == 3
  | .withdraw => n == 2
  | .stop => n == 1
  | .exported => n == 2
  | .time => n == 2
  | .query => n == 2

/-- Word `i` of a report, the header being word 0 and the body words 1 to the body length (R214). -/
def Report.word (r : Report) (i : Nat) : Word := r.body.getD (i - 1) 0

/-- The consignment reference: words 1 and 2, high word first (R214). -/
def Report.reference (r : Report) : BitVec 64 := r.word 1 ++ r.word 2

/-- Compartment of a LOAD or MOVE body: bits 15 to 8 of word 3 (R214). -/
def Report.compartment (r : Report) : Nat := bits (r.word 3) 15 8

/-- Band class of a LOAD body: bits 7 to 0 of word 3 (R214). -/
def Report.band (r : Report) : Nat := bits (r.word 3) 7 0

/-- Reading sequence of a READING body (R214). -/
def Report.readingSeq (r : Report) : Half := (r.word 1).extractLsb' 16 16

/-- Compartment count of a READING body (R214). -/
def Report.count (r : Report) : Nat := bits (r.word 1) 2 0

/-- Probe word of compartment `c` (R214). -/
def Report.probeWord (r : Report) (c : Nat) : Word := r.word (2 + 2 * c)

/-- State word of compartment `c` (R214). -/
def Report.stateWord (r : Report) (c : Nat) : Word := r.word (3 + 2 * c)

/-- The door coded in bits 3 to 0 of a state word (R214). -/
def doorOfCode (k : Nat) : Option Door :=
  match k with
  | 0 => some .unknown
  | 1 => some .closed
  | 2 => some .opened
  | _ => none

/-- The unit coded in bits 7 to 4 of a state word (R214). -/
def unitOfCode (k : Nat) : Option UnitState :=
  match k with
  | 0 => some .unknown
  | 1 => some .running
  | 2 => some .defrost
  | 3 => some .off
  | _ => none

/-- A state word within its encoding: door and unit known, bits 31 to 8 zero (R110, R214). -/
def stateWordOk (w : Word) : Bool :=
  (doorOfCode (bits w 3 0)).isSome && (unitOfCode (bits w 7 4)).isSome && bits w 31 8 == 0

/-- The encoding checks of a READING (R110). -/
def readingEncodingOk (cfg : Setup) (r : Report) : Bool :=
  1 ≤ r.count && r.count ≤ 4 && r.body.length == 1 + 2 * r.count && r.count == cfg.count
    && bits (r.word 1) 15 3 == 0
    && (List.range r.count).all (fun c => stateWordOk (r.stateWord c))

/-- The encoding checks of R105 by kind (R110 to R114, R213, R214), the header's reserved bits among
them. -/
def encodingOk (cfg : Setup) (r : Report) : Bool :=
  r.rsv == 0 &&
  match r.kind with
  | .reading => readingEncodingOk cfg r
  | .load => r.compartment ≤ 3 && r.band ≤ 7 && bits (r.word 3) 31 16 == 0
  | .move => r.compartment ≤ 3 && bits (r.word 3) 31 16 == 0 && bits (r.word 3) 7 0 == 0
  | .stop => bits (r.word 1) 15 2 == 0 && (bits (r.word 1) 1 0 == 1 || bits (r.word 1) 1 0 == 2)
  | .handover => true
  | .withdraw => true
  | .exported => true
  | .time => true
  | .query => true

/-- The check word is correct for the header and body collected (R95). -/
def checkWordOk (header : Word) (body : List Word) (w : Word) : Bool :=
  w == headerSeq header ++ spanCheck (header :: body)

end Sys2Proof.Machine

namespace Sys2Proof

/-! ## Host accesses (R142, R147) -/

/-- Width in bytes. -/
def Width.bytes : Width → Nat
  | .one => 1
  | .two => 2
  | .four => 4

/-- A narrow width as a width. -/
def NarrowWidth.width : NarrowWidth → Width
  | .one => .one
  | .two => .two

/-- Offset of an access within its word. -/
def HostAccess.offset (a : HostAccess) : Nat := a.addr.toNat % 4

/-- Is the address a multiple of the width (00, Conventions)? -/
def HostAccess.aligned (a : HostAccess) : Bool := a.addr.toNat % a.width.bytes == 0

/-- The word address that contains the access (R147). -/
def HostAccess.wordAddr (a : HostAccess) : Nat := Machine.wordAddress a.addr.toNat

/-- The bytes of a word that an access names, lowest address first (R147). -/
def HostAccess.namedBytes (a : HostAccess) (w : Word) : List Byte :=
  (List.range a.width.bytes).map (fun i => Machine.byteOf w (a.offset + i))

/-- Does the access name byte `k` of its word? -/
def HostAccess.names (a : HostAccess) (k : Nat) : Bool :=
  a.offset ≤ k && k < a.offset + a.width.bytes

/-- The word with the named bytes replaced by the host's data, in the same places (R149, log 14). -/
def HostAccess.merge (a : HostAccess) (w : Word) : Word :=
  (if a.names 0 then Machine.byteOf a.data 0 else Machine.byteOf w 0)
    ++ (if a.names 1 then Machine.byteOf a.data 1 else Machine.byteOf w 1)
    ++ (if a.names 2 then Machine.byteOf a.data 2 else Machine.byteOf w 2)
    ++ (if a.names 3 then Machine.byteOf a.data 3 else Machine.byteOf w 3)

end Sys2Proof

namespace Sys2Proof.Machine

/-! ## Word formats shared by records and status (R213, R215, R216) -/

/-- The absent form of a whole word (R213). -/
def absentWord : Word := 0xFFFFFFFF#32

/-- A number in a whole word. -/
def natWord (n : Nat) : Word := BitVec.ofNat 32 n

/-- An optional number in a whole word (R213). -/
def optWord (n : Option Nat) : Word :=
  match n with
  | some v => natWord v
  | none => absentWord

/-- A temperature in a half, 0x8000 when absent (R213). -/
def tempHalf (t : Option Int) : Half :=
  match t with
  | some v => BitVec.ofInt 16 v
  | none => 0x8000#16

/-- A temperature pair word: warm, cold (R215). -/
def tempPair (warm cold : Option Int) : Word := tempHalf warm ++ tempHalf cold

/-- A temperature pair of an effective reading. -/
def effectivePair (e : Option Effective) : Word :=
  match e with
  | some v => tempPair (some v.warm) (some v.cold)
  | none => tempPair none none

/-- Verdict code (R215). -/
def Verdict.code : Verdict → Nat
  | .clean => 0
  | .unproven _ => 1
  | .broken _ => 2

/-- Cause code (R215). -/
def Verdict.causeCode : Verdict → Nat
  | .clean => 0
  | .unproven .gap => 1
  | .unproven .staging => 2
  | .unproven .recordLost => 3
  | .broken .hardLimit => 4
  | .broken .dose => 5
  | .broken .duration => 6

/-- The verdict word (R215): verdict, cause, presence flags. -/
def verdictWord (v : Verdict) (flags : Half) : Word :=
  BitVec.ofNat 8 v.code ++ BitVec.ofNat 8 v.causeCode ++ flags

/-- The placement word (R215): slot, compartment, band class, zero. -/
def placementWord (slot compartment band : Nat) : Word :=
  BitVec.ofNat 8 slot ++ BitVec.ofNat 8 compartment ++ BitVec.ofNat 8 band ++ 0#8

/-- A reference as two words, high first (R215). -/
def referenceWords (r : BitVec 64) : List Word := [r.extractLsb' 32 32, r.extractLsb' 0 32]

/-! ## Record words (R126, R215) -/

/-- Record kind code (R215). -/
def RecordBody.code : RecordBody → Nat
  | .loaded .. => 0
  | .opened .. => 1
  | .excursion .. => 2
  | .moved .. => 3
  | .verdict .. => 4
  | .closed .. => 5
  | .withdrawn .. => 6
  | .gap .. => 7
  | .stop .. => 8
  | .doubt .. => 9
  | .loss .. => 10
  | .power .. => 11
  | .reset .. => 12
  | .coldStart .. => 13
  | .setup .. => 14
  | .time .. => 15

/-- Body length in words (R127). -/
def RecordBody.length : RecordBody → Nat
  | .loaded .. => 4
  | .opened .. => 5
  | .excursion .. => 8
  | .moved .. => 3
  | .verdict .. => 5
  | .closed _ _ _ _ none => 10
  | .closed _ _ _ _ (some _) => 11
  | .withdrawn .. => 2
  | .gap .. => 4
  | .stop .. => 1
  | .doubt .. => 3
  | .loss .. => 3
  | .power .. => 2
  | .reset .. => 1
  | .coldStart .. => 4
  | .setup .. => 4
  | .time .. => 2

/-- Record length: fixed words, body and trailer (R126). -/
def QEntry.recordLength (e : QEntry) : Nat := e.body.length + 4

/-- The EXCURSION flags: bit 0 wholly allowed, bit 1 partly allowed, bit 2 ended by handover (R215). -/
def excursionFlags (wholly partly byHandover : Bool) : Word :=
  0#29 ++ BitVec.ofBool byHandover ++ BitVec.ofBool partly ++ BitVec.ofBool wholly

/-- The CLOSED presence flags: bit 0 open time, bit 1 opening record sequence, bit 2 receiver (R215). -/
def closedFlags (openTime openSeq receiver : Bool) : Half :=
  0#13 ++ BitVec.ofBool receiver ++ BitVec.ofBool openSeq ++ BitVec.ofBool openTime

/-- The body words of a record (R215); `openSeq` is the opening record sequence the writer reads from
the account entry for a CLOSED record (R26, R131). -/
def RecordBody.words (b : RecordBody) (openSeq : Option Word) : List Word :=
  match b with
  | .loaded r slot comp band seq =>
    referenceWords r ++ [placementWord slot comp band, 0#16 ++ seq]
  | .opened r slot comp band v e =>
    referenceWords r ++ [placementWord slot comp band, verdictWord v 0, effectivePair e]
  | .excursion r start finish peak allowed brk wholly partly byHandover =>
    referenceWords r ++ [natWord start, natWord finish, 0#16 ++ BitVec.ofNat 16 peak,
      natWord allowed, natWord brk, excursionFlags wholly partly byHandover]
  | .moved r origin target =>
    referenceWords r ++ [0#16 ++ BitVec.ofNat 8 origin ++ BitVec.ofNat 8 target]
  | .verdict r v dose uncovered =>
    referenceWords r ++ [verdictWord v 0, natWord dose, natWord uncovered]
  | .closed r v openTime t receiver =>
    referenceWords r ++ [verdictWord v (closedFlags openTime.isSome openSeq.isSome receiver.isSome),
      optWord openTime, openSeq.getD absentWord, natWord t.breakDose, natWord t.allowanceDose,
      natWord t.gap, 0#24 ++ BitVec.ofNat 8 t.excursions, tempPair t.peakWarm t.peakCold]
      ++ receiver.toList
  | .withdrawn r => referenceWords r
  | .gap comp fromTime toTime cause =>
    [0#24 ++ BitVec.ofNat 8 comp, natWord fromTime, natWord toTime,
      match cause with
      | .missed => 1#32
      | .power => 2#32]
  | .stop number arrive => [number ++ 0#14 ++ (if arrive then 1#2 else 2#2)]
  | .doubt comp raised cause a b =>
    [0#16 ++ BitVec.ofNat 8 comp ++ (if raised then 1#4 else 2#4)
        ++ (match cause with
            | .disagree => 1#4
            | .absent => 2#4),
      0#16 ++ tempHalf a, 0#16 ++ tempHalf b]
  | .loss count first last => [natWord count, natWord first, natWord last]
  | .power lossTime returnTime => [natWord lossTime, natWord returnTime]
  | .reset t => [natWord t]
  | .coldStart highest found outcome =>
    (match highest with
      | some (seq, chain) => [seq, 0#16 ++ chain]
      | none => [absentWord, absentWord])
      ++ [natWord found,
        match outcome with
        | .none => 1#32
        | .lost => 2#32]
  | .setup check base size relocated =>
    [0#16 ++ check, natWord base, natWord size, if relocated then 1#32 else 0#32]
  | .time high low => [high, low]

/-- Fixed word 0: marker, kind, body length, sequence tag (R126, R215). -/
def fixedWord0 (b : RecordBody) (seq : Word) : Word :=
  0x5C#8 ++ BitVec.ofNat 4 b.code ++ BitVec.ofNat 5 b.length ++ seq.extractLsb' 0 15

/-- The fixed and body words of a record (R126), which check and chain cover (R128). -/
def coveredWords (e : QEntry) (seq : Word) (openSeq : Option Word) : List Word :=
  [fixedWord0 e.body seq, seq, natWord e.time] ++ e.body.words openSeq

/-- The chain value of a record whose covered words are `ws`, after the committed register (R128). -/
def chainValue (committed : Half) (ws : List Word) : Half := feedWords committed ws

/-- The trailer: record check and chain value (R126, R128). -/
def trailerWord (committed : Half) (ws : List Word) : Word := spanCheck ws ++ chainValue committed ws

/-- Does a log word carry the marker 0x5C (R126)? -/
def hasMarker (w : Word) : Bool := bits w 31 24 == 0x5C

/-- Body length carried by fixed word 0 (R215). -/
def markedLength (w : Word) : Nat := bits w 19 15

/-- Sequence tag carried by fixed word 0 (R215). -/
def sequenceTag (w : Word) : BitVec 15 := w.extractLsb' 0 15

/-- Byte address of log position `i`, modulo the size (R122, R123). -/
def Setup.logAddr (c : Setup) (i : Nat) : Nat := c.logBase + 4 * (i % c.logSize)

end Sys2Proof.Machine
end

