-- ==== Sys2Proof/Machine/Flags.lean ====
section
/-! DEFINITION. Alert causes, standing conditions, counters, the alert line, and the picture the status
block shows (chapter 09, R216). -/

namespace Sys2Proof.Machine

/-! ## Alert causes -/

/-- Bit of a cause in the alert cause set (R216). -/
def Cause.index : Cause → Nat
  | .broken => 0
  | .unproven => 1
  | .recordLost => 2
  | .writerFault => 3
  | .protectViolation => 4
  | .reportRefused => 5
  | .setupRejected => 6
  | .restart => 7
  | .cadenceLost => 8
  | .probeDoubt => 9
  | .unitOff => 10
  | .logNearFull => 11
  | .logFull => 12

/-- The cause as a set of one (R216). -/
def Cause.bit (c : Cause) : BitVec 13 := 1#13 <<< c.index

/-- Is the cause in the set? -/
def Cause.inSet (c : Cause) (set : BitVec 13) : Bool := set.getLsbD c.index

/-- Latch a cause (R183, R184). -/
def State.latch (s : State) (c : Cause) : State :=
  { s with alert := { s.alert with latched := s.alert.latched ||| c.bit } }

/-- Latch a cause when a condition begins (R184). -/
def State.latchIf (s : State) (b : Bool) (c : Cause) : State := if b then s.latch c else s

/-- All five counters at 0 (R189). -/
def Counters.zero : Counters :=
  { refusedReports := 0, protectViolations := 0, accessErrors := 0, missedReadings := 0,
    lostRecords := 0 }

/-- The level the alert line takes from the latched causes and the mask in force (R186). -/
def State.lineLevel (s : State) : Bool :=
  match s.setup.inForce with
  | some c => s.alert.latched &&& c.mask != 0
  | none => false

/-- The alert line is judged afresh (R186). While the backup domain is lost nothing drives it (log 17). -/
def State.judgeLine (s : State) : State :=
  if s.supply.domainHeld then { s with alert := { s.alert with line := s.lineLevel } } else s

/-! ## Standing conditions -/

/-- Words of the log not holding unexported records (R122). -/
def freeWords (cfg : Setup) (l : LogState) : Nat := cfg.logSize - l.used

/-- LOG_NEAR_FULL stands while free is less than the threshold (R124). -/
def State.nearFullStands (s : State) : Bool :=
  match s.setup.inForce, s.writer.log with
  | some c, some l => freeWords c l < c.nearFull
  | _, _ => false

/-- LOG_NEAR_FULL is judged: its beginning latches the cause (R124). -/
def State.judgeNearFull (s : State) : State :=
  let s1 := s.latchIf (s.nearFullStands && !s.writer.nearFull) .logNearFull
  { s1 with writer := { s1.writer with nearFull := s.nearFullStands } }

/-- The standing of LOG_NEAR_FULL is taken afresh without being a beginning (R124). -/
def State.refreshNearFull (s : State) : State :=
  { s with writer := { s.writer with nearFull := s.nearFullStands } }

/-- Is the entry TRACKED in the compartment? -/
def Entry.trackedIn (k : Nat) : Entry → Bool
  | .tracked c _ => c.compartment == k
  | _ => false

/-- The unit-off standing of compartment `k` as its two parts give it (R46). -/
def unitOffNow (accounts : List Entry) (k : Nat) (c : Compartment) : Bool :=
  c.unit == .off && accounts.any (Entry.trackedIn k)

/-- The unit-off standing is judged again in every compartment; a turn to yes latches UNIT_OFF (R46). -/
def State.judgeUnitOff (s : State) : State :=
  let judged := s.compartments.mapIdx (fun k c => { c with unitOff := unitOffNow s.accounts k c })
  let begins := (s.compartments.mapIdx (fun k c => unitOffNow s.accounts k c && !c.unitOff)).any id
  ({ s with compartments := judged }).latchIf begins .unitOff

/-- LOG_FULL stands while the writer is in WAITING_SPACE (R125). -/
def State.logFullStands (s : State) : Bool := s.writer.state == .waitingSpace

/-- PROBE_DOUBT stands while any compartment's doubtful flag is raised (R184). -/
def State.probeDoubtStands (s : State) : Bool := s.compartments.any (fun c => c.doubt.isSome)

/-- UNIT_OFF stands while any compartment's unit-off standing is yes (R184). -/
def State.unitOffStands (s : State) : Bool := s.compartments.any (fun c => c.unitOff)

/-! ## Account entries -/

/-- What an entry aboard carries in every lifecycle (R1). -/
def Entry.consignment : Entry → Option Consignment
  | .free => none
  | .staged c _ => some c
  | .tracked c _ => some c
  | .closing c _ _ => some c

/-- An entry is aboard while STAGED, TRACKED or CLOSING (R1). -/
def Entry.aboard (e : Entry) : Bool := e.consignment.isSome

/-- Is any account entry aboard? -/
def State.anyAboard (s : State) : Bool := s.accounts.any Entry.aboard

/-- Lifecycle code (R216). -/
def Entry.lifecycleCode : Entry → Nat
  | .free => 0
  | .staged .. => 1
  | .tracked .. => 2
  | .closing .. => 3

/-- Number of entries in a lifecycle (R6). -/
def countLifecycle (accounts : List Entry) (code : Nat) : Nat :=
  accounts.countP (fun e => e.lifecycleCode == code)

/-- Number of aboard entries with a verdict (R6). -/
def countVerdict (accounts : List Entry) (code : Nat) : Nat :=
  accounts.countP (fun e => match e.consignment with
    | some c => c.verdict.code == code
    | none => false)

/-! ## Status words (R178, R216) -/

/-- Part state code (R216). -/
def PartState.code : PartState → Nat
  | .starting _ => 1
  | .opened => 2
  | .scanning => 3
  | .running => 4
  | .retain => 5

/-- Cadence code (R216). -/
def CadenceState.code : CadenceState → Nat
  | .acquire => 0
  | .confirm => 1
  | .locked => 2
  | .lost => 3

/-- Writer state code (R216). -/
def WriterState.code : WriterState → Nat
  | .idle => 0
  | .waitingSpace => 1
  | .writing .. => 2
  | .verifying .. => 3
  | .halted => 4

/-- Refusal reason code of word 16 (R216). -/
def ReportRefusal.code : ReportRefusal → Nat
  | .badHeader => 2
  | .overtaken => 3
  | .outOfOrder => 4
  | .narrowWrite => 5
  | .checkFailed => 6
  | .timedOut => 7
  | .notReady => 8
  | .badField => 9
  | .unknownConsignment => 10
  | .duplicate => 11
  | .tableFull => 12
  | .wrongState => 13
  | .queueFull => 14
  | .stale => 15
  | .badExport => 16

/-- Result code of word 16 (R216). -/
def ReportResult.code : ReportResult → Nat
  | .taken => 1
  | .refused r => r.code

/-- Rejection reason code of word 18 (R216). -/
def RejectReason.code : RejectReason → Nat
  | .misaligned => 1
  | .beyondCapacity => 2
  | .narrowWindow => 3
  | .logProtected => 4
  | .statusProtected => 5
  | .setupLocked => 6
  | .memoryFault => 7

/-- Setup rejection code of word 24 (R216). -/
def SetupReject.code : SetupReject → Nat
  | .memoryFault => 1
  | .marker => 2
  | .check => 3
  | .capacity => 4
  | .region => 5
  | .timing => 6
  | .band => 7
  | .reserved => 8
  | .logInUse => 9

/-- Machine state code (R216). -/
def Allowance.code : Allowance → Nat
  | .idle => 0
  | .grace _ => 1
  | .expired => 2
  | .recovery _ => 3

/-- Probe mode code (R216). -/
def ProbeMode.code : ProbeMode → Nat
  | .none => 0
  | .singleA => 1
  | .singleB => 2
  | .dual => 3

/-- Status word 1: part state, load in flight, cadence, miss count, compartment count, power-loss
interval present. -/
def State.word1 (s : State) : Word :=
  BitVec.ofNat 4 s.supply.part.code ++ BitVec.ofBool s.setup.load.isSome
    ++ BitVec.ofNat 3 s.cadence.state.code ++ BitVec.ofNat 4 s.cadence.miss
    ++ BitVec.ofNat 4 s.cfg.count ++ BitVec.ofBool s.supply.powerLoss.isSome ++ 0#15

/-- Status word 2: stop state and stop number. -/
def State.word2 (s : State) : Word :=
  match s.stop with
  | some n => 1#1 ++ 0#15 ++ n
  | none => 0#32

/-- Status word 3: STAGED, TRACKED, CLOSING. -/
def State.word3 (s : State) : Word :=
  0#8 ++ BitVec.ofNat 8 (countLifecycle s.accounts 1) ++ BitVec.ofNat 8 (countLifecycle s.accounts 2)
    ++ BitVec.ofNat 8 (countLifecycle s.accounts 3)

/-- Status word 4: CLEAN, UNPROVEN, BROKEN. -/
def State.word4 (s : State) : Word :=
  0#8 ++ BitVec.ofNat 8 (countVerdict s.accounts 0) ++ BitVec.ofNat 8 (countVerdict s.accounts 1)
    ++ BitVec.ofNat 8 (countVerdict s.accounts 2)

/-- Status word 5: queue depth, writer state. -/
def State.word5 (s : State) : Word :=
  0#8 ++ BitVec.ofNat 8 s.queue.entries.length ++ 0#13 ++ BitVec.ofNat 3 s.writer.state.code

/-- Status words 6 to 8: pending-loss count and loss times. -/
def State.lossWords (s : State) : List Word :=
  match s.queue.loss with
  | some l => [natWord l.count, natWord l.first, natWord l.last]
  | none => [0#32, absentWord, absentWord]

/-- Status words 9 to 12: head, tail, free words, next record sequence; absent while not set. -/
def State.logWords (s : State) : List Word :=
  match s.writer.log with
  | some l => [natWord l.head, natWord l.tail, natWord (freeWords s.cfg l), l.nextSeq]
  | none => [absentWord, absentWord, absentWord, absentWord]

/-- Status word 13: committed chain value, setup check value. -/
def State.word13 (s : State) : Word := s.writer.chain ++ s.cfg.checkValue

/-- Status word 14: standing conditions in bits 28 to 24, latched causes. -/
def State.word14 (s : State) : Word :=
  0#3 ++ BitVec.ofBool s.logFullStands ++ BitVec.ofBool s.writer.nearFull
    ++ BitVec.ofBool s.unitOffStands ++ BitVec.ofBool s.probeDoubtStands
    ++ BitVec.ofBool s.cadence.lostStanding ++ 0#11 ++ s.alert.latched

/-- Status word 15: the mask in force. -/
def State.word15 (s : State) : Word := 0#19 ++ s.cfg.mask

/-- Status word 16: latest report sequence and result. -/
def State.word16 (s : State) : Word :=
  match s.receipt.latest with
  | some (seq, r) => seq ++ 0#8 ++ BitVec.ofNat 8 r.code
  | none => 0#32

/-- Status word 17: recorded-through sequence and its presence in bit 0. While the sequence is absent its
half is written 0 (DESIGN CHOICE, log 40). -/
def State.word17 (s : State) : Word :=
  match s.receipt.recordedThrough with
  | some seq => seq ++ 1#16
  | none => 0#32

/-- Width code in three bits: 1, 2 or 4. -/
def widthCode (w : Width) : BitVec 3 := BitVec.ofNat 3 w.bytes

/-- Status words 18 and 19: the last rejected access. While there is none, address, width and direction
are written 0 beside reason 0 (DESIGN CHOICE, log 40). -/
def State.rejectedWords (s : State) : List Word :=
  match s.rejected with
  | some r =>
    [r.addr ++ widthCode r.width ++ (match r.dir with
        | .read => 0#1
        | .write => 1#1) ++ BitVec.ofNat 4 r.reason.code, natWord r.time]
  | none => [0#32, absentWord]

/-- Status words 20 to 22: the counters. -/
def State.counterWords (s : State) : List Word :=
  let c := s.alert.counters
  [BitVec.ofNat 16 c.refusedReports ++ BitVec.ofNat 16 c.protectViolations,
    BitVec.ofNat 16 c.accessErrors ++ BitVec.ofNat 16 c.missedReadings,
    0#16 ++ BitVec.ofNat 16 c.lostRecords]

/-- Status word 24: last setup result and reason. -/
def State.word24 (s : State) : Word :=
  match s.setup.lastResult with
  | .none => 0#32
  | .inFlight => 0x10#32
  | .accepted => 0x20#32
  | .rejected r => 0#24 ++ 3#4 ++ BitVec.ofNat 4 r.code
  | .abandoned => 0x40#32

/-- The two summary words of a compartment (R178, R216). -/
def Compartment.summary (c : Compartment) : List Word :=
  [effectivePair c.effective,
    0#18 ++ BitVec.ofNat 2 c.defrostMachine.code ++ 0#2 ++ BitVec.ofNat 2 c.doorMachine.code ++ 0#5
      ++ BitVec.ofBool c.doubt.isSome ++ BitVec.ofNat 2 c.mode.code]

/-- The summary of a compartment at or beyond the count in force (R178). -/
def absentSummary : List Word := [effectivePair none, 0#32]

/-- Status words 25 to 32. -/
def State.summaryWords (s : State) : List Word :=
  (List.range 4).flatMap (fun k => match s.compartments[k]? with
    | some c => c.summary
    | none => absentSummary)

/-- Condition code in the view: 0 absent, 1 IN_BAND, 2 OUT_OF_BAND (R216). -/
def Entry.conditionCode : Entry → Nat
  | .tracked _ t => if t.excursion.isSome then 2 else 1
  | _ => 0

/-- The current excursion of an entry, if it has one. -/
def Entry.excursion : Entry → Option Excursion
  | .tracked _ t => t.excursion
  | _ => none

/-- The totals of an entry, where they have a value (R1). -/
def Entry.totals : Entry → Option Totals
  | .tracked _ t => some t.totals
  | .closing _ _ t => some t
  | _ => none

/-- The account time of the view (R191). -/
def Entry.accountTime : Entry → Option Nat
  | .free => none
  | .staged _ d => some d
  | .tracked _ t => some t.lastGood
  | .closing _ o _ => o.map Opening.time

/-- Word 34 of the view: lifecycle, compartment, band class, condition, verdict, cause, peak excess. -/
def Entry.word34 (e : Entry) : Word :=
  match e.consignment with
  | none => 0#32
  | some c =>
    BitVec.ofNat 4 e.lifecycleCode ++ BitVec.ofNat 2 c.compartment ++ BitVec.ofNat 3 c.band
      ++ BitVec.ofNat 2 e.conditionCode ++ BitVec.ofNat 2 c.verdict.code
      ++ BitVec.ofNat 3 c.verdict.causeCode
      ++ BitVec.ofNat 16 (match e.excursion with
          | some x => x.peak
          | none => 0)

/-- Words 33 to 43 of the account view (R191, R216). -/
def viewWords (v : Option View) : List Word :=
  match v with
  | none => [0#32, 0#32, tempPair none none] ++ List.replicate 8 absentWord
  | some v =>
    let t := v.entry.totals
    let x := v.entry.excursion
    [v.seq ++ BitVec.ofNat 8 v.slot ++ BitVec.ofNat 8 ((t.map Totals.excursions).getD 0),
      v.entry.word34,
      tempPair (t.bind Totals.peakWarm) (t.bind Totals.peakCold),
      optWord (t.map Totals.breakDose), optWord (t.map Totals.allowanceDose),
      optWord (t.map Totals.gap), optWord v.entry.accountTime,
      optWord (x.map Excursion.start), optWord (x.map Excursion.allowed),
      optWord (x.map Excursion.brk), optWord (x.map Excursion.unallowed)]

/-- Status words 44 and 45: the last power-loss interval. -/
def State.powerWords (s : State) : List Word :=
  match s.supply.powerLoss with
  | some p => [natWord p.loss, optWord p.ret]
  | none => [absentWord, absentWord]

/-- Status word 47: the echo (R187, R216). -/
def State.word47 (s : State) : Word :=
  match s.alert.echo with
  | some e => BitVec.ofBool e.clear ++ 1#1 ++ 0#17 ++ e.causes
  | none => 0#32

/-- Status words 1 to 22. -/
def State.shownFirst (s : State) : List Word :=
  [s.word1, s.word2, s.word3, s.word4, s.word5] ++ s.lossWords ++ s.logWords
    ++ [s.word13, s.word14, s.word15, s.word16, s.word17] ++ s.rejectedWords ++ s.counterWords

/-- Status words 24 to 45. -/
def State.shownSecond (s : State) : List Word :=
  [s.word24] ++ s.summaryWords ++ viewWords s.alert.view ++ s.powerWords

/-- Every field the status block shows, less the generation number and the clock (R179). -/
def State.shown (s : State) : List Word := s.shownFirst ++ s.shownSecond ++ [s.word47]

/-- The picture of 48 words with a generation number (R178, R216). -/
def State.picture (s : State) (gen : Word) : List Word :=
  [gen] ++ s.shownFirst ++ [natWord s.clock.seconds] ++ s.shownSecond ++ [gen, s.word47]

/-- A change of a field that the status block shows raises a demand (R179). -/
def State.raiseDemand (s before : State) : State :=
  if before.shown = s.shown then s
  else { s with status := { s.status with demand := true } }

end Sys2Proof.Machine
end

