-- ==== Sys2Proof/Machine/Ops.lean ====
section
/-! DEFINITION. The named operations the commands share: account updates and verdict changes, records
and their loss, results of reports, rejected accesses, requests of the memory port, and the end of an
operation. -/

namespace Sys2Proof.Machine

/-- The chill-clock seconds count (R193). -/
def State.now (s : State) : Nat := s.clock.seconds

/-! ## Account entries and verdicts -/

/-- The entry of a slot; FREE beyond the table. -/
def State.account (s : State) (slot : Nat) : Entry := s.accounts.getD slot .free

/-- Replace the entry of a slot. -/
def State.setAccount (s : State) (slot : Nat) (e : Entry) : State :=
  { s with accounts := s.accounts.set slot e }

/-- Is the entry an aboard one that carries the reference (R3)? -/
def Entry.carries (reference : BitVec 64) (e : Entry) : Bool :=
  match e.consignment with
  | some c => c.reference == reference
  | none => false

/-- The slot of the aboard account with a reference (R3). -/
def findReference (accounts : List Entry) (reference : BitVec 64) : Option Nat :=
  accounts.findIdx? (Entry.carries reference)

/-- The FREE entry with the lowest slot number (R4). -/
def lowestFree (accounts : List Entry) : Option Nat := accounts.findIdx? (fun e => e == .free)

/-- A change to UNPROVEN: only a CLEAN verdict changes (R7). -/
def Verdict.toUnproven (v : Verdict) (cause : UnprovenCause) : Verdict :=
  match v with
  | .clean => .unproven cause
  | .unproven c => .unproven c
  | .broken c => .broken c

/-- A change to BROKEN: a BROKEN verdict keeps its cause (R7). -/
def Verdict.toBroken (v : Verdict) (cause : BrokenCause) : Verdict :=
  match v with
  | .clean => .broken cause
  | .unproven _ => .broken cause
  | .broken c => .broken c

/-- Is the verdict BROKEN? -/
def Verdict.isBroken : Verdict → Bool
  | .broken _ => true
  | .clean => false
  | .unproven _ => false

/-- Change the consignment part of an entry aboard. -/
def Entry.mapConsignment (f : Consignment → Consignment) : Entry → Entry
  | .free => .free
  | .staged c d => .staged (f c) d
  | .tracked c t => .tracked (f c) t
  | .closing c o t => .closing (f c) o t

/-- The consignment with its verdict changed to UNPROVEN if it is CLEAN (R7). -/
def Consignment.unprove (cause : UnprovenCause) (c : Consignment) : Consignment :=
  { c with verdict := c.verdict.toUnproven cause }

/-- Is the entry aboard and CLEAN? -/
def Entry.isClean (e : Entry) : Bool :=
  match e.consignment with
  | some c => c.verdict == .clean
  | none => false

/-- Is the entry TRACKED? -/
def Entry.isTracked : Entry → Bool
  | .tracked _ _ => true
  | .free => false
  | .staged _ _ => false
  | .closing _ _ _ => false

/-! ## Records (chapter 06) -/

/-- Does a record concern the entry of a slot, judged at the moment of the loss (R119, R127)? -/
def QEntry.concerns (q : QEntry) (slot : Nat) (e : Entry) : Bool :=
  match q.body with
  | .loaded .. => q.slot == some slot
  | .opened .. => q.slot == some slot
  | .excursion .. => q.slot == some slot
  | .moved .. => q.slot == some slot
  | .verdict .. => q.slot == some slot
  | .closed .. => q.slot == some slot
  | .withdrawn .. => false
  | .gap k _ _ _ => e.trackedIn k
  | .stop .. => false
  | .doubt k _ _ _ _ => e.trackedIn k
  | .loss .. => false
  | .power .. => e.isTracked
  | .reset .. => e.isTracked
  | .coldStart .. => false
  | .setup .. => false
  | .time .. => false

/-- An entry after the loss of a record: UNPROVEN (RECORD_LOST) if concerned and CLEAN (R119). -/
def QEntry.afterLoss (q : QEntry) (slot : Nat) (e : Entry) : Entry :=
  if q.concerns slot e then e.mapConsignment (Consignment.unprove .recordLost) else e

/-- The pending loss with one more record lost at a time (R118). -/
def PendingLoss.add (l : Option PendingLoss) (t : Nat) : PendingLoss :=
  match l with
  | none => { count := 1, first := t, last := t }
  | some l => { count := satAdd l.count 1, first := l.first, last := t }

/-- A record produced with the queue full is lost (R118, R119). -/
def State.lose (s : State) (q : QEntry) : State :=
  let changed := (s.accounts.mapIdx (fun slot e => q.concerns slot e && e.isClean)).any id
  let s1 := { s with
    accounts := s.accounts.mapIdx (fun slot e => q.afterLoss slot e)
    queue := { s.queue with loss := some (PendingLoss.add s.queue.loss s.now) }
    alert := { s.alert with
      counters := { s.alert.counters with lostRecords := counterAdd s.alert.counters.lostRecords 1 } } }
  (s1.latch .recordLost).latchIf changed .unproven

/-- Room of the evidence queue in records (R11, R115). -/
def State.room (s : State) : Nat := 16 - s.queue.entries.length

/-- A record joins the queue behind its newest entry, or is lost (R117). -/
def State.produce (s : State) (q : QEntry) : State :=
  if s.queue.entries.length < 16 then
    { s with queue := { s.queue with entries := s.queue.entries ++ [q] } }
  else s.lose q

/-! ## Results of reports (chapter 05) -/

/-- A report is refused: receipt, counter, alert cause (R106, R107). -/
def State.refuse (s : State) (seq : Half) (reason : ReportRefusal) : State :=
  ({ s with
    receipt := { s.receipt with latest := some (seq, .refused reason) }
    alert := { s.alert with
      counters := { s.alert.counters with
        refusedReports := counterAdd s.alert.counters.refusedReports 1 } } }).latch .reportRefused

/-- A report is taken, its records being queued: receipt and recorded-through mark (R107, R108). -/
def State.take (s : State) (seq : Half) : State :=
  let r := { s.receipt with latest := some (seq, .taken) }
  { s with receipt :=
      if s.queue.entries = [] then { r with recordedThrough := some seq, mark := none }
      else { r with mark := some { index := s.queue.entries.length - 1, seq := seq } } }

/-- The report under assembly is refused and the assembler becomes IDLE; nothing happens in IDLE
(R98 to R101). -/
def State.refuseAssembly (s : State) (reason : ReportRefusal) : State :=
  match s.assembler.collecting with
  | none => s
  | some c =>
    ({ s with assembler := { s.assembler with collecting := none } }).refuse (headerSeq c.header) reason

/-! ## Host accesses (chapter 07) -/

/-- The access is kept as the last rejected access (R155). -/
def State.keepRejected (s : State) (a : HostAccess) (reason : RejectReason) : State :=
  let r : Rejected :=
    { addr := a.addr, width := a.width, dir := a.dir, reason := reason, time := s.now }
  { s with rejected := some r }

/-- The access-errors counter increases and the access is kept (R153, R154). -/
def State.accessError (s : State) (a : HostAccess) (reason : RejectReason) : State :=
  ({ s with alert := { s.alert with
      counters := { s.alert.counters with
        accessErrors := counterAdd s.alert.counters.accessErrors 1 } } }).keepRejected a reason

/-- A suppressed write: counter, PROTECT_VIOLATION, last rejected access (R151). -/
def State.protectViolation (s : State) (a : HostAccess) (reason : RejectReason) : State :=
  (({ s with alert := { s.alert with
      counters := { s.alert.counters with
        protectViolations := counterAdd s.alert.counters.protectViolations 1 } } }).latch
          .protectViolation).keepRejected a reason

/-- The port answers the access it carries (R142). -/
def State.answer (s : State) (a : HostAccess) (r : Response) : State :=
  { s with port := { s.port with
      current := none, answers := { acc := a, response := r } :: s.port.answers } }

/-- The filter requests memory for the access (R145). -/
def State.askUpstream (s : State) (a : HostAccess) (job : HostJob) : State :=
  { s with
    port := { s.port with current := some { acc := a, phase := .atMemory job } }
    arbiter := { s.arbiter with upstream := true } }

/-- The access is held unanswered (R142). -/
def State.hold (s : State) (a : HostAccess) : State :=
  { s with port := { s.port with current := some { acc := a, phase := .held } } }

/-! ## Requests of the memory port (chapter 07) -/

/-- The memory access in progress has ended: the port is free (R157). -/
def State.freePort (s : State) : State := { s with arbiter := { s.arbiter with owner := none } }

/-- A lockout ends (R158). -/
def State.endLockout (s : State) : State := { s with arbiter := { s.arbiter with lockout := none } }

/-- The log writer asks for the port (R132). -/
def State.askWriter (s : State) : State := { s with arbiter := { s.arbiter with writer := true } }

/-- A client of the internal reader asks for one read, behind the reads asked for before (R159). -/
def State.askReader (s : State) (c : ReaderClient) : State :=
  { s with arbiter := { s.arbiter with reader := s.arbiter.reader ++ [c] } }

/-- The status updater begins a rewrite and asks for the port (R179). -/
def State.askStatus (s : State) : State :=
  { s with
    status := { s.status with rewrite := some .requested }
    arbiter := { s.arbiter with status := true } }

/-- A full rewrite follows, whatever was in progress (R182). -/
def State.fullRewrite (s : State) : State :=
  ({ s with status := { s.status with demand := true } }).askStatus

/-- A load trigger: flag raised, read position 0, working copy empty, result IN_FLIGHT, first read asked
for (R166, R167). -/
def State.raiseLoad (s : State) : State :=
  ({ s with setup := { s.setup with load := some [], lastResult := .inFlight } }).askReader .setupLoader

/-- Is some internal requester waiting (R157)? -/
def Arbiter.internalWaiting (a : Arbiter) : Bool := a.writer || !a.reader.isEmpty || a.status

/-- Is the access the port carries the read of a read-modify-write (R158)? -/
def Port.atRmwRead (p : Port) : Bool :=
  match p.current with
  | some { acc := _, phase := .atMemory .rmwRead } => true
  | _ => false

/-- At its first grant a rewrite takes its snapshot with the next generation number and clears the
demand (R179). -/
def State.snapshot (s : State) : State :=
  match s.status.rewrite with
  | some .requested =>
    { s with status :=
        { gen := s.status.gen + 1, demand := false,
          rewrite := some (.writing (s.picture (s.status.gen + 1)) 0) } }
  | _ => s

/-- Rule 1 of R157: the lockout holder's next access. -/
def State.grantHolder (s : State) (h : Lockout) : State :=
  match h with
  | .upstream =>
    if s.arbiter.upstream then
      { s with arbiter := { s.arbiter with owner := some .upstream, upstream := false } }
    else s
  | .writer =>
    if s.arbiter.writer then
      { s with arbiter := { s.arbiter with owner := some .writer, writer := false } }
    else s

/-- Rule 2 of R157: the upstream pass-through, counting fairness; a read-modify-write takes its lockout
at the grant of its read (R158). -/
def State.grantUpstream (s : State) : State :=
  { s with arbiter := { s.arbiter with
      owner := some .upstream
      upstream := false
      lockout := if s.port.atRmwRead then some .upstream else none
      fairness := if s.arbiter.internalWaiting then s.arbiter.fairness + 1 else 0 } }

/-- Rule 3 of R157: the highest-ranked internal requester. The writer takes its lockout (R158); the
status updater's first grant of a rewrite takes the snapshot (R179). -/
def State.grantInternal (s : State) : State :=
  if s.arbiter.writer then
    { s with arbiter := { s.arbiter with
        owner := some .writer, lockout := some .writer, writer := false, fairness := 0 } }
  else match s.arbiter.reader with
    | c :: rest =>
      { s with arbiter := { s.arbiter with
          owner := some (.reader c), reader := rest, fairness := 0 } }
    | [] =>
      if s.arbiter.status then
        ({ s with arbiter := { s.arbiter with
            owner := some .status, status := false, fairness := 0 } }).snapshot
      else s

/-- The arbiter grants the memory port when it is free (R157). -/
def State.arbitrate (s : State) : State :=
  match s.arbiter.owner with
  | some _ => s
  | none =>
    match s.arbiter.lockout with
    | some h => s.grantHolder h
    | none =>
      if s.arbiter.upstream && s.arbiter.fairness < 8 then s.grantUpstream else s.grantInternal

/-! ## The end of an operation -/

/-- The end of every operation: a demand for what it changed (R179), the alert line (R186), the retained
check (R198). -/
def State.settle (s before : State) : State := (s.raiseDemand before).judgeLine.seal

end Sys2Proof.Machine
end

