-- ==== Sys2Proof/Machine/Cadence.lean ====
section
/-! DEFINITION. The cadence tracker (chapter 03, R50 to R58). -/

namespace Sys2Proof.Machine

/-- The tracker after a cold start, power return or reset line (R50). -/
def Cadence.fresh : Cadence :=
  { state := .acquire, deadline := none, miss := 0, lastSeq := none, lostStanding := false }

/-- The tracker after a setup accepted from RUNNING: the last reading sequence is kept (R50, R57). -/
def Cadence.afterSetup (c : Cadence) : Cadence := { Cadence.fresh with lastSeq := c.lastSeq }

/-- The tracker takes a reading whose sequence is newer than the last, or any when there is none (R51). -/
def Cadence.takes (c : Cadence) (seq : Half) : Bool :=
  match c.lastSeq with
  | none => true
  | some last => newer seq last

/-- The skip of an accepted reading: d - 1 - miss count, and 0 if that is below 0 (R55). -/
def Cadence.skip (c : Cadence) (seq : Half) : Nat :=
  match c.lastSeq with
  | none => 0
  | some last => (seq - last).toNat - 1 - c.miss

/-- The state an accepted reading leads to (R52). -/
def CadenceState.onReading : CadenceState → CadenceState
  | .acquire => .confirm
  | .confirm => .locked
  | .locked => .locked
  | .lost => .confirm

/-- The step at an accepted reading (R52); entering LOCKED ends CADENCE_LOST (R56). -/
def Cadence.accept (c : Cadence) (seq : Half) (now reach : Nat) : Cadence :=
  { state := c.state.onReading
    deadline := some (satAdd now reach)
    miss := 0
    lastSeq := some seq
    lostStanding := c.lostStanding && c.state.onReading != .locked }

/-- The step at the expiry of the expected-arrival deadline `d` (R53). -/
def Cadence.expire (c : Cadence) (d period : Nat) : Cadence :=
  match c.state with
  | .acquire => c
  | .lost => c
  | .confirm => { c with state := .acquire, miss := 1, deadline := none }
  | .locked =>
    if c.miss < 2 then { c with miss := c.miss + 1, deadline := some (satAdd d period) }
    else { c with state := .lost, miss := 3, deadline := none, lostStanding := true }

/-- The missed-readings counter grows (R53, R55). -/
def State.addMissed (s : State) (n : Nat) : State :=
  { s with alert := { s.alert with
      counters := { s.alert.counters with
        missedReadings := counterAdd s.alert.counters.missedReadings n } } }

/-- The cadence tracker accepts a reading: skip addition, then its step (R52, R55). -/
def State.acceptReading (s : State) (seq : Half) : State :=
  let s1 := s.addMissed (s.cadence.skip seq)
  { s1 with cadence := s.cadence.accept seq s.now s.cfg.reach }

/-- Has a deadline time been reached, in a part state in which blocks act (R194)? -/
def State.reached (s : State) (d : Nat) : Bool := s.supply.part != .retain && d ≤ s.now

/-- The expected-arrival deadline expires if it has been reached; entering LOST begins CADENCE_LOST
(R53, R56). -/
def State.expireCadence (s : State) : State :=
  match s.cadence.deadline with
  | none => s
  | some d =>
    if s.reached d then
      let c := s.cadence.expire d s.cfg.period
      let s1 := { s.addMissed 1 with cadence := c }
      s1.latchIf (s.cadence.state == .locked && c.state == .lost) .cadenceLost
    else s

/-- EXPECTED_ARRIVAL_DEADLINE (R53). Nothing happens before the deadline is reached (log 6). -/
def execExpectedArrivalDeadline (s : State) : Host.Outcome State Fault Refusal :=
  .next (s.expireCadence.settle s)

end Sys2Proof.Machine
end

