-- ==== Sys2Proof/Machine/Compartments.lean ====
section
/-! DEFINITION. The compartment monitors (chapter 02): probes, runs and doubt, allowance machines, and
the search for missed time (R61). -/

namespace Sys2Proof.Machine

/-- The compartment record in its cold-start values (R32). -/
def Compartment.cold (bFitted : Bool) : Compartment :=
  { bFitted := bFitted, probeA := none, probeB := none, mode := .none, effective := none,
    lastPresent := none, disagreeRun := 0, absenceRun := 0, trustRun := 0, doubt := none,
    door := .unknown, unit := .unknown, doorMachine := .idle, defrostMachine := .idle,
    unitOff := false }

/-- The compartment records of a setup, in their cold-start values (R30, R31). -/
def coldCompartments (c : Setup) : List Compartment :=
  (List.range c.count).map (fun k => Compartment.cold (c.bFitted k))

/-- The transient fields lost: door, unit, both allowance machines, the three runs (R32, R198). -/
def Compartment.loseTransient (c : Compartment) : Compartment :=
  { c with disagreeRun := 0, absenceRun := 0, trustRun := 0, door := .unknown, unit := .unknown,
           doorMachine := .idle, defrostMachine := .idle }

/-- The values a power return or a reset line leaves (R32). -/
def Compartment.restart (c : Compartment) : Compartment := { c.loseTransient with unitOff := false }

/-- The probe mode (R35). -/
def formMode (bFitted : Bool) (a b : Option Int) : ProbeMode :=
  match bFitted, a, b with
  | true, some _, some _ => .dual
  | true, some _, none => .singleA
  | true, none, some _ => .singleB
  | true, none, none => .none
  | false, some _, _ => .singleA
  | false, none, _ => .none

/-- The effective reading (R35). -/
def formEffective (bFitted : Bool) (a b : Option Int) : Option Effective :=
  match bFitted, a, b with
  | true, some x, some y => some { warm := max x y, cold := min x y }
  | true, some x, none => some { warm := x, cold := x }
  | true, none, some y => some { warm := y, cold := y }
  | true, none, none => none
  | false, some x, _ => some { warm := x, cold := x }
  | false, none, _ => none

/-- Does the probe B value play a part (R34)? -/
def takenB (bFitted : Bool) (b : Option Int) : Option Int := if bFitted then b else none

/-- A difference greater than the tolerance is a disagreement (R37). -/
def disagrees (tolerance : Nat) (a b : Option Int) : Bool :=
  match a, b with
  | some x, some y => tolerance < (x - y).natAbs
  | _, _ => false

/-- The three runs (R37). -/
structure Runs where
  disagree : Nat
  absence : Nat
  trust : Nat
deriving DecidableEq, Repr

/-- A run grows by one and stops at 15 (R37). -/
def growRun (n : Nat) : Nat := min (n + 1) 15

/-- The update of the runs at a reading, from the mode just formed (R37). -/
def Runs.update (r : Runs) (bFitted disagree : Bool) (m : ProbeMode) : Runs :=
  match m with
  | .dual =>
    if disagree then { disagree := growRun r.disagree, absence := 0, trust := 0 }
    else { disagree := 0, absence := 0, trust := growRun r.trust }
  | .singleA =>
    if bFitted then { disagree := r.disagree, absence := growRun r.absence, trust := 0 }
    else { disagree := 0, absence := 0, trust := growRun r.trust }
  | .singleB => { disagree := r.disagree, absence := growRun r.absence, trust := 0 }
  | .none => { disagree := r.disagree, absence := growRun r.absence, trust := 0 }

/-- A run reaches the doubt count at this reading (R38). -/
def runReaches (count before after : Nat) : Bool := before < count && count ≤ after

/-- A change of the doubtful flag: raised or cleared, with the cause of the raising (R38, R39). -/
structure DoubtChange where
  raised : Bool
  cause : DoubtCause
deriving DecidableEq, Repr

/-- The doubt update (R38): the raising or clearing this reading makes, if any. -/
def doubtChange (count : Nat) (doubt : Option DoubtCause) (before after : Runs) :
    Option DoubtChange :=
  match doubt with
  | none =>
    if runReaches count before.disagree after.disagree then some { raised := true, cause := .disagree }
    else if runReaches count before.absence after.absence then some { raised := true, cause := .absent }
    else none
  | some cause =>
    if runReaches count before.trust after.trust then some { raised := false, cause := cause } else none

/-- The doubtful flag and its cause after the update (R38). -/
def doubtAfter (doubt : Option DoubtCause) (change : Option DoubtChange) : Option DoubtCause :=
  match change with
  | none => doubt
  | some c => if c.raised then some c.cause else none

/-- The move into GRACE; a grace length of 0 gives EXPIRED (R41, R42). -/
def startGrace (now grace : Nat) : Allowance :=
  if grace = 0 then .expired else .grace (satAdd now grace)

/-- One step of an allowance machine at a reading (R41, R44). -/
def Allowance.step (m : Allowance) (isOpen : Bool) (now grace recovery : Nat) : Allowance :=
  match m with
  | .idle => if isOpen then startGrace now grace else .idle
  | .grace e => if isOpen then .grace e else .recovery (satAdd now recovery)
  | .expired => if isOpen then .expired else .idle
  | .recovery e => if isOpen then startGrace now grace else .recovery e

/-- Is the machine in GRACE or RECOVERY (R45)? -/
def Allowance.active : Allowance → Bool
  | .idle => false
  | .grace _ => true
  | .expired => false
  | .recovery _ => true

/-- Is the machine in RECOVERY (R15)? -/
def Allowance.isRecovery : Allowance → Bool
  | .idle => false
  | .grace _ => false
  | .expired => false
  | .recovery _ => true

/-- The compartment's allowance is active when either machine is in GRACE or RECOVERY (R45). -/
def Compartment.allowanceActive (c : Compartment) : Bool :=
  c.doorMachine.active || c.defrostMachine.active

/-- The runs of a compartment record. -/
def Compartment.runs (c : Compartment) : Runs :=
  { disagree := c.disagreeRun, absence := c.absenceRun, trust := c.trustRun }

/-- The door grace length (R42). -/
def doorGrace (cfg : Setup) (atStop : Bool) : Nat := if atStop then cfg.stopGrace else cfg.awayGrace

/-- Probe A of a probe word (R34, R214). -/
def probeAOf (w : Word) : Option Int := presentTemp (signedHalf w 16)

/-- Probe B of a probe word (R34, R214). -/
def probeBOf (bFitted : Bool) (w : Word) : Option Int := takenB bFitted (presentTemp (signedHalf w 0))

/-- The door of a state word whose encoding has been checked (R40, R214). -/
def doorOf (w : Word) : Door := (doorOfCode (bits w 3 0)).getD .unknown

/-- The unit of a state word whose encoding has been checked (R40, R214). -/
def unitOf (w : Word) : UnitState := (unitOfCode (bits w 7 4)).getD .unknown

/-- The runs after a reading. -/
def Compartment.newRuns (c : Compartment) (cfg : Setup) (probe : Word) : Runs :=
  let a := probeAOf probe
  let b := probeBOf c.bFitted probe
  c.runs.update c.bFitted (disagrees cfg.tolerance a b) (formMode c.bFitted a b)

/-- The raising or clearing of doubt that a reading makes. -/
def Compartment.newDoubt (c : Compartment) (cfg : Setup) (probe : Word) : Option DoubtChange :=
  doubtChange cfg.doubtCount c.doubt c.runs (c.newRuns cfg probe)

/-- The compartment update at a taken READING (R33 to R44), steps 1 to 6. -/
def Compartment.update (c : Compartment) (cfg : Setup) (atStop : Bool) (now : Nat)
    (probe state : Word) : Compartment :=
  let a := probeAOf probe
  let b := probeBOf c.bFitted probe
  let e := formEffective c.bFitted a b
  let r := c.newRuns cfg probe
  { c with
    probeA := a, probeB := b, mode := formMode c.bFitted a b, effective := e
    lastPresent := if e.isSome then some now else c.lastPresent
    disagreeRun := r.disagree, absenceRun := r.absence, trustRun := r.trust
    doubt := doubtAfter c.doubt (c.newDoubt cfg probe)
    door := doorOf state, unit := unitOf state
    doorMachine :=
      c.doorMachine.step (doorOf state == .opened) now (doorGrace cfg atStop) cfg.recovery
    defrostMachine :=
      c.defrostMachine.step (unitOf state == .defrost) now cfg.defrostGrace cfg.recovery }

/-- The DOUBT record of a change (R39). -/
def doubtRecord (k now : Nat) (d : DoubtChange) (a b : Option Int) : QEntry :=
  { time := now, slot := none, body := .doubt k d.raised d.cause a b }

/-- One compartment takes its words of a READING; a change of doubt queues a DOUBT record, a raising
latches PROBE_DOUBT (R33, R39). -/
def State.updateCompartment (s : State) (r : Report) (k : Nat) : State :=
  match s.compartments[k]? with
  | none => s
  | some c =>
    let probe := r.probeWord k
    let c1 := c.update s.cfg s.stop.isSome s.now probe (r.stateWord k)
    let s1 := { s with compartments := s.compartments.set k c1 }
    match c.newDoubt s.cfg probe with
    | none => s1
    | some d =>
      (s1.latchIf d.raised .probeDoubt).produce (doubtRecord k s.now d c1.probeA c1.probeB)

/-- The compartment update of all compartments in order (R33). -/
def State.updateCompartments (s : State) (r : Report) : State :=
  ((List.range s.compartments.length).foldl (fun t k => t.updateCompartment r k) s).judgeUnitOff

/-- The cause of a GAP record: POWER when the span shares a second with the last power-loss interval
(R62). -/
def gapCause (p : Option PowerLoss) (fromTime toTime : Nat) : GapCause :=
  match p with
  | some { loss := l, ret := some r } => if l ≤ toTime ∧ fromTime ≤ r then .power else .missed
  | some { loss := _, ret := none } => .missed
  | none => .missed

/-- The search for missed time in one compartment, with its previous last present time (R61). -/
def State.searchGap (s : State) (previous : Option Nat) (k : Nat) : State :=
  match s.compartments[k]?, previous with
  | some c, some p =>
    if c.effective.isSome && s.cfg.reach < s.now - p then
      s.produce { time := s.now, slot := none, body := .gap k p s.now (gapCause s.supply.powerLoss p s.now) }
    else s
  | _, _ => s

/-- The search for missed time, compartment by compartment, with the last present times that stood
before the reading (R36, R61). -/
def State.searchGaps (s : State) (previous : List (Option Nat)) : State :=
  (List.range s.compartments.length).foldl (fun t k => t.searchGap (previous.getD k none) k) s

/-- The machine of a compartment by name. -/
def Compartment.machine (c : Compartment) (n : MachineName) : Allowance :=
  match n with
  | .door => c.doorMachine
  | .defrost => c.defrostMachine

/-- Set the machine of a compartment by name. -/
def Compartment.setMachine (c : Compartment) (n : MachineName) (m : Allowance) : Compartment :=
  match n with
  | .door => { c with doorMachine := m }
  | .defrost => { c with defrostMachine := m }

/-- A GRACE expiry moves the machine to EXPIRED (R43). -/
def Allowance.expireGrace (m : Allowance) (reached : Nat → Bool) : Allowance :=
  match m with
  | .grace e => if reached e then .expired else .grace e
  | .idle => .idle
  | .expired => .expired
  | .recovery e => .recovery e

/-- A RECOVERY expiry moves the machine to IDLE (R43). -/
def Allowance.expireRecovery (m : Allowance) (reached : Nat → Bool) : Allowance :=
  match m with
  | .recovery e => if reached e then .idle else .recovery e
  | .idle => .idle
  | .expired => .expired
  | .grace e => .grace e

/-- Change one machine of one compartment. -/
def State.mapMachine (s : State) (k : Nat) (n : MachineName) (f : Allowance → Allowance) : State :=
  match s.compartments[k]? with
  | none => s
  | some c => { s with compartments := s.compartments.set k (c.setMachine n (f (c.machine n))) }

end Sys2Proof.Machine
end

