-- ==== Sys2Proof/Machine/Evaluation.lean ====
section
/-! DEFINITION. Opening and evaluation of accounts, the walk of the account table, and the READING
handler (R14 to R16, R51, R59, chapter 04). -/

namespace Sys2Proof.Machine

/-- Totals at opening (R9). -/
def Totals.zero : Totals :=
  { breakDose := 0, allowanceDose := 0, gap := 0, excursions := 0, peakWarm := none, peakCold := none }

/-- The tracking of an account opened at a time (R16, R18). -/
def openTracking (t gapLimit : Nat) : Tracking :=
  { opening := { time := t, recordSeq := none }, excursion := none, totals := Totals.zero,
    lastGood := t, gapDeadline := some (satAdd t gapLimit) }

/-- The OPENED record (R16, R18). -/
def openedRecord (slot t : Nat) (c : Consignment) (e : Option Effective) : QEntry :=
  { time := t, slot := some slot, body := .opened c.reference slot c.compartment c.band c.verdict e }

/-- Excess in tenths (R69): the warm side is judged first. -/
def excess (b : Band) (e : Effective) : Nat :=
  if b.high < e.warm then (e.warm - b.high).toNat
  else if e.cold < b.low then (b.low - e.cold).toNat
  else 0

/-- The hard-limit test (R71). -/
def hardBreach (b : Band) (e : Effective) : Bool := b.hardHigh < e.warm || e.cold < b.hardLow

/-- Covered time: the lesser of the interval and period + window (R59). -/
def coveredTime (t : Tracking) (now reach : Nat) : Nat := min (now - t.lastGood) reach

/-- Uncovered time (R59). -/
def uncoveredTime (t : Tracking) (now reach : Nat) : Nat := (now - t.lastGood) - coveredTime t now reach

/-- The part of an amount that the allowance budget takes: up to the allowance room (R77); all of it at
the highest budget, which never overflows into break dose (R79, log 35). -/
def allowanceTakes (budget total amount : Nat) : Nat :=
  if budget = maxWord then amount else min amount (budget - total)

/-- The part of an amount charged as allowance dose: nothing without an active allowance, else what the
allowance budget takes (R77 to R79). -/
def allowedPart (b : Band) (t : Totals) (allowance : Bool) (amount : Nat) : Nat :=
  if allowance then allowanceTakes b.allowanceBudget t.allowanceDose amount else 0

/-- The excursion of step 4: the one in progress, or a new one on excess (R75, R76). -/
def startExcursion (t : Tracking) (now x : Nat) : Option Excursion :=
  match t.excursion with
  | some e => some e
  | none =>
    if 0 < x then some { start := now, peak := 0, allowed := 0, brk := 0, unallowed := 0 } else none

/-- The excursion count of step 4 (R75). -/
def excursionCount (t : Tracking) (x : Nat) : Nat :=
  if t.excursion.isNone && 0 < x then min (t.totals.excursions + 1) 255 else t.totals.excursions

/-- Steps 5 and 6 on the current excursion (R77, R78, R80). -/
def Excursion.charge (e : Excursion) (x allowed brk unallowed : Nat) : Excursion :=
  { start := e.start, peak := max e.peak x, allowed := satAdd e.allowed allowed,
    brk := satAdd e.brk brk, unallowed := satAdd e.unallowed unallowed }

/-- The higher of a peak and a value (R81). -/
def peakHigh (p : Option Int) (v : Int) : Option Int :=
  match p with
  | none => some v
  | some q => some (max q v)

/-- The lower of a peak and a value (R81). -/
def peakLow (p : Option Int) (v : Int) : Option Int :=
  match p with
  | none => some v
  | some q => some (min q v)

/-- A test that finds a break makes the account BROKEN with its cause (R84). -/
def Verdict.breakIf (v : Verdict) (found : Bool) (cause : BrokenCause) : Verdict :=
  if found then v.toBroken cause else v

/-- What one evaluation leaves: verdict, tracking, and the excursion it ended. -/
structure Evaluated where
  verdict : Verdict
  tracking : Tracking
  ended : Option Excursion
deriving DecidableEq, Repr

/-- Was the account over the excursion time limit (R83)? -/
def overTime (b : Band) (e : Option Excursion) : Bool :=
  match e with
  | some x => b.timeLimit < x.unallowed
  | none => false

/-- The totals after steps 1, 4, 5 and 6 (R74, R75, R77, R78, R81). -/
def Totals.charge (t : Totals) (e : Effective) (uncovered count allowed brk : Nat) : Totals :=
  { breakDose := satAdd t.breakDose brk
    allowanceDose := satAdd t.allowanceDose allowed
    gap := satAdd t.gap uncovered
    excursions := count
    peakWarm := peakHigh t.peakWarm e.warm
    peakCold := peakLow t.peakCold e.cold }

/-- Evaluation of one account, steps 1 to 9 of R72. -/
def evaluate (cfg : Setup) (b : Band) (now : Nat) (e : Effective) (allowance : Bool) (v : Verdict)
    (t : Tracking) : Evaluated :=
  let covered := coveredTime t now cfg.reach
  let x := excess b e
  let allowed := allowedPart b t.totals allowance (x * covered)
  let brk := x * covered - allowed
  let unallowed := if 0 < x && !allowance then covered else 0
  let current := (startExcursion t now x).map (fun y => y.charge x allowed brk unallowed)
  let totals :=
    t.totals.charge e (uncoveredTime t now cfg.reach) (excursionCount t x) allowed brk
  let v1 := v.breakIf (hardBreach b e) .hardLimit
  let v2 := v1.breakIf (b.doseBudget < totals.breakDose) .dose
  let v3 := v2.breakIf (overTime b current) .duration
  { verdict := v3
    tracking :=
      { opening := t.opening, excursion := if x = 0 then none else current, totals := totals,
        lastGood := now, gapDeadline := some (satAdd now cfg.gapLimit) }
    ended := if x = 0 then current else none }

/-- The flags of an EXCURSION record: wholly allowed (R86). -/
def Excursion.wholly (e : Excursion) : Bool := e.brk == 0 && e.unallowed == 0

/-- The flags of an EXCURSION record: partly allowed (R86). -/
def Excursion.partly (e : Excursion) : Bool := 0 < e.allowed && !e.wholly

/-- The EXCURSION record of an excursion that ended (R85, R86, R25). -/
def excursionRecord (slot t : Nat) (reference : BitVec 64) (e : Excursion) (byHandover : Bool) : QEntry :=
  { time := t, slot := some slot
    body := .excursion reference e.start t e.peak e.allowed e.brk e.wholly e.partly byHandover }

/-- The VERDICT record (R8). -/
def verdictRecord (slot t : Nat) (c : Consignment) (totals : Totals) : QEntry :=
  { time := t, slot := some slot, body := .verdict c.reference c.verdict totals.breakDose totals.gap }

/-- Queue the EXCURSION record of an evaluation, if an excursion ended (R85, R89). -/
def State.queueEnded (s : State) (slot : Nat) (reference : BitVec 64) (ended : Option Excursion) :
    State :=
  match ended with
  | none => s
  | some e => s.produce (excursionRecord slot s.now reference e false)

/-- One turn's evaluation of a TRACKED account whose compartment has a present effective reading, with
its records at the end of the turn (R72, R89). -/
def State.evaluateSlot (s : State) (slot : Nat) : State :=
  match s.account slot with
  | .tracked c t =>
    match s.compartments[c.compartment]? with
    | none => s
    | some k =>
      match k.effective with
      | none => s
      | some e =>
        let r := evaluate s.cfg (s.cfg.band c.band) s.now e k.allowanceActive c.verdict t
        let c1 := { c with verdict := r.verdict }
        let broke := !c.verdict.isBroken && r.verdict.isBroken
        let s1 := (s.setAccount slot (.tracked c1 r.tracking)).latchIf broke .broken
        let s2 := s1.queueEnded slot c.reference r.ended
        if broke then s2.produce (verdictRecord slot s.now c1 r.tracking.totals) else s2
  | .free => s
  | .staged _ _ => s
  | .closing _ _ _ => s

/-- The opening test at a taken READING (R15). -/
def opensAt (cadence : Cadence) (cfg : Setup) (c : Consignment) (k : Compartment) : Bool :=
  match k.effective with
  | none => false
  | some e =>
    cadence.state == .locked && k.door == .closed && k.doubt.isNone
      && (excess (cfg.band c.band) e == 0 || k.doorMachine.isRecovery)

/-- A STAGED account opens at a reading (R16). -/
def State.openSlot (s : State) (slot : Nat) (c : Consignment) (k : Compartment) : State :=
  (s.setAccount slot (.tracked c (openTracking s.now s.cfg.gapLimit))).produce
    (openedRecord slot s.now c k.effective)

/-- One slot's turn of the walk (R14). -/
def State.walkSlot (s : State) (slot : Nat) : State :=
  match s.account slot with
  | .free => s
  | .closing _ _ _ => s
  | .tracked _ _ => s.evaluateSlot slot
  | .staged c _ =>
    match s.compartments[c.compartment]? with
    | none => s
    | some k =>
      if opensAt s.cadence s.cfg c k then (s.openSlot slot c k).evaluateSlot slot else s

/-- The walk of the account table in slot order (R14), then the unit-off standing (R46). -/
def State.walk (s : State) : State :=
  ((List.range 48).foldl (fun t slot => t.walkSlot slot) s).judgeUnitOff

/-- The READING handler: taken or refused STALE (R51); a taken READING is one operation of cadence
step, compartment update, search for missed time and account walk (R33, R52, R61, R14). -/
def State.handleReading (s : State) (r : Report) : State :=
  if s.cadence.takes r.readingSeq then
    let s1 := s.acceptReading r.readingSeq
    let s2 := s1.updateCompartments r
    let s3 := s2.searchGaps (s.compartments.map Compartment.lastPresent)
    s3.walk.take r.seq
  else s.refuse r.seq .stale

end Sys2Proof.Machine
end

