-- ==== Sys2Proof/Machine/Accounts.lean ====
section
/-! DEFINITION. The account table: manifest reports, QUERY, and the staging and gap deadlines
(chapter 01, R64, R191, R202). -/

namespace Sys2Proof.Machine

/-- Checks 1 to 6 of R10 for a LOAD: the first that fails, or the slot the LOAD takes. -/
def State.checkLoad (s : State) (r : Report) : Except ReportRefusal Nat :=
  if !(r.compartment < s.cfg.count && (s.cfg.band r.band).enabled) then .error .badField
  else if s.stop.isNone then .error .wrongState
  else if (findReference s.accounts r.reference).isSome then .error .duplicate
  else match lowestFree s.accounts with
    | none => .error .tableFull
    | some slot => if s.room < 1 then .error .queueFull else .ok slot

/-- The consignment a LOAD puts aboard (R12). -/
def loadedConsignment (r : Report) : Consignment :=
  { reference := r.reference, compartment := r.compartment, band := r.band, verdict := .clean }

/-- The LOADED record (R12). -/
def loadedRecord (slot t : Nat) (r : Report) : QEntry :=
  { time := t, slot := some slot
    body := .loaded r.reference slot r.compartment r.band r.seq }

/-- The LOAD handler (R10, R12). -/
def State.handleLoad (s : State) (r : Report) : State :=
  match s.checkLoad r with
  | .error reason => s.refuse r.seq reason
  | .ok slot =>
    let e := Entry.staged (loadedConsignment r) (satAdd s.now s.cfg.stagingLimit)
    ((s.setAccount slot e).produce (loadedRecord slot s.now r)).take r.seq

/-- The compartment of an entry aboard. -/
def Entry.compartment (e : Entry) : Option Nat := e.consignment.map Consignment.compartment

/-- Check 1 of R10 for a MOVE: the range, and a change of compartment where the reference is aboard. -/
def State.moveField (s : State) (r : Report) : Bool :=
  r.compartment < s.cfg.count &&
    (match findReference s.accounts r.reference with
      | none => true
      | some slot => (s.account slot).compartment != some r.compartment)

/-- Checks 1 to 6 of R10 for a MOVE: the first that fails, or the account's slot and consignment. -/
def State.checkMove (s : State) (r : Report) : Except ReportRefusal (Nat × Consignment) :=
  if !s.moveField r then .error .badField
  else if s.stop.isNone then .error .wrongState
  else match findReference s.accounts r.reference with
    | none => .error .unknownConsignment
    | some slot =>
      match s.account slot with
      | .free => .error .unknownConsignment
      | .closing _ _ _ => .error .wrongState
      | .staged c _ => if s.room < 1 then .error .queueFull else .ok (slot, c)
      | .tracked c _ => if s.room < 1 then .error .queueFull else .ok (slot, c)

/-- The MOVED record (R20). -/
def movedRecord (slot t : Nat) (c : Consignment) (target : Nat) : QEntry :=
  { time := t, slot := some slot, body := .moved c.reference c.compartment target }

/-- The MOVE handler (R10, R20, R21), with the unit-off standing judged again (R46). -/
def State.handleMove (s : State) (r : Report) : State :=
  match s.checkMove r with
  | .error reason => s.refuse r.seq reason
  | .ok (slot, c) =>
    let e := (s.account slot).mapConsignment (fun x => { x with compartment := r.compartment })
    ((s.setAccount slot e).produce (movedRecord slot s.now c r.compartment)).judgeUnitOff.take r.seq

/-- Checks 3, 5 and 6 of R10 for a WITHDRAW. -/
def State.checkWithdraw (s : State) (r : Report) : Except ReportRefusal Nat :=
  match findReference s.accounts r.reference with
  | none => .error .unknownConsignment
  | some slot =>
    match s.account slot with
    | .free => .error .unknownConsignment
    | .staged _ _ => if s.room < 1 then .error .queueFull else .ok slot
    | .tracked _ _ => .error .wrongState
    | .closing _ _ _ => .error .wrongState

/-- The WITHDRAWN record (R24). -/
def withdrawnRecord (slot t : Nat) (reference : BitVec 64) : QEntry :=
  { time := t, slot := some slot, body := .withdrawn reference }

/-- The WITHDRAW handler (R24). -/
def State.handleWithdraw (s : State) (r : Report) : State :=
  match s.checkWithdraw r with
  | .error reason => s.refuse r.seq reason
  | .ok slot =>
    ((s.setAccount slot .free).produce (withdrawnRecord slot s.now r.reference)).take r.seq

/-- Records a HANDOVER of a TRACKED account produces (R11). -/
def Tracking.handoverRecords (t : Tracking) : Nat := if t.excursion.isSome then 2 else 1

/-- Checks 2, 3, 5 and 6 of R10 for a HANDOVER. -/
def State.checkHandover (s : State) (r : Report) : Except ReportRefusal Nat :=
  if s.stop.isNone then .error .wrongState
  else match findReference s.accounts r.reference with
    | none => .error .unknownConsignment
    | some slot =>
      match s.account slot with
      | .free => .error .unknownConsignment
      | .closing _ _ _ => .error .wrongState
      | .staged _ _ => if s.room < 1 then .error .queueFull else .ok slot
      | .tracked _ t =>
        if s.room < t.handoverRecords then .error .queueFull else .ok slot

/-- The CLOSED record (R26). -/
def closedRecord (slot t : Nat) (c : Consignment) (openTime : Option Nat) (totals : Totals)
    (receiver : Option Word) : QEntry :=
  { time := t, slot := some slot, body := .closed c.reference c.verdict openTime totals receiver }

/-- The receiver code: word 3 of a body of three words (R111). -/
def Report.receiver (r : Report) : Option Word := r.body[2]?

/-- A taken HANDOVER of a TRACKED account (R25). -/
def State.closeTracked (s : State) (slot : Nat) (c : Consignment) (t : Tracking)
    (receiver : Option Word) : State :=
  let s1 := match t.excursion with
    | none => s
    | some e => s.produce (excursionRecord slot s.now c.reference e true)
  let s2 := s1.produce (closedRecord slot s.now c (some t.opening.time) t.totals receiver)
  (s2.setAccount slot (.closing c (some t.opening) t.totals)).judgeUnitOff

/-- A taken HANDOVER of a STAGED account (R27). -/
def State.closeStaged (s : State) (slot : Nat) (c : Consignment) (receiver : Option Word) : State :=
  let c1 := c.unprove .staging
  ((s.produce (closedRecord slot s.now c1 none Totals.zero receiver)).setAccount slot
    (.closing c1 none Totals.zero)).latchIf (c.verdict == .clean) .unproven

/-- The HANDOVER handler (R25, R27). -/
def State.handleHandover (s : State) (r : Report) : State :=
  match s.checkHandover r with
  | .error reason => s.refuse r.seq reason
  | .ok slot =>
    match s.account slot with
    | .staged c _ => (s.closeStaged slot c r.receiver).take r.seq
    | .tracked c t => (s.closeTracked slot c t r.receiver).take r.seq
    | .free => s
    | .closing _ _ _ => s

/-- The QUERY handler: the account view is filled from the entry as it stands, and a demand raised whether
or not the view then differs (R3, R114, R192). -/
def State.handleQuery (s : State) (r : Report) : State :=
  match findReference s.accounts r.reference with
  | none => s.refuse r.seq .unknownConsignment
  | some slot =>
    let v : View := { seq := r.seq, slot := slot, entry := s.account slot }
    ({ s with
      alert := { s.alert with view := some v }
      status := { s.status with demand := true } }).take r.seq

/-! ## Deadlines -/

/-- The staging deadline of a STAGED account is taken at its own time (R18). -/
def State.openAtDeadline (s : State) (slot : Nat) (c : Consignment) (d : Nat) : State :=
  let c1 := c.unprove .staging
  let s1 := (s.setAccount slot (.tracked c1 (openTracking d s.cfg.gapLimit))).latchIf
    (c.verdict == .clean) .unproven
  (s1.produce (openedRecord slot d c1 none)).judgeUnitOff

/-- The gap deadline of a TRACKED account is taken at its own time (R64). -/
def State.gapAtDeadline (s : State) (slot : Nat) (c : Consignment) (t : Tracking) (d : Nat) : State :=
  let c1 := c.unprove .gap
  let s1 := s.setAccount slot (.tracked c1 { t with gapDeadline := none })
  if c.verdict = .clean then
    (s1.latch .unproven).produce (verdictRecord slot d c1 t.totals)
  else s1

/-- The retained deadline an entry holds (R194). -/
def Entry.deadline : Entry → Option Nat
  | .free => none
  | .staged _ d => some d
  | .tracked _ t => t.gapDeadline
  | .closing _ _ _ => none

/-- The staging deadline of a slot expires if it has been reached (R18, R194). -/
def State.expireStaging (s : State) (slot : Nat) : State :=
  match s.account slot with
  | .staged c d => if s.reached d then s.openAtDeadline slot c d else s
  | .free => s
  | .tracked _ _ => s
  | .closing _ _ _ => s

/-- The gap deadline of a slot expires if it has been reached (R64, R194). -/
def State.expireGap (s : State) (slot : Nat) : State :=
  match s.account slot with
  | .tracked c t =>
    match t.gapDeadline with
    | none => s
    | some d => if s.reached d then s.gapAtDeadline slot c t d else s
  | .free => s
  | .staged _ _ => s
  | .closing _ _ _ => s

/-- The retained deadline of a slot is taken, whatever the part state (R202). -/
def State.takeDeadline (s : State) (slot : Nat) : State :=
  match s.account slot with
  | .staged c d => s.openAtDeadline slot c d
  | .tracked c t =>
    match t.gapDeadline with
    | none => s
    | some d => s.gapAtDeadline slot c t d
  | .free => s
  | .closing _ _ _ => s

/-- The earliest retained deadline at or before a time. -/
def earliestDeadline (accounts : List Entry) (now : Nat) : Option Nat :=
  ((accounts.filterMap Entry.deadline).filter (fun d => decide (d ≤ now))).min?

/-- The slots whose deadline is at a time, in slot order. -/
def slotsDueAt (accounts : List Entry) (d : Nat) : List Nat :=
  (List.range accounts.length).filter (fun i => (accounts.getD i .free).deadline == some d)

/-- One of the slots whose deadlines fell in the same second: either may be taken first, so the choice
is a free value (R202, log 11). -/
def State.chooseSlot (s : State) (slots : List Nat) : Option (Nat × State) :=
  match slots with
  | [] => none
  | [slot] => some (slot, s)
  | slot :: rest =>
    some ((slot :: rest).getD (Config.freeChoice s.free % (rest.length + 1)) slot,
      { s with free := s.free + 1 })

/-- The fallen retained deadlines are taken in order of time (R202), at most `fuel` of them. -/
def takeFallen : Nat → State → State
  | 0, s => s
  | fuel + 1, s =>
    match earliestDeadline s.accounts s.now with
    | none => s
    | some d =>
      match s.chooseSlot (slotsDueAt s.accounts d) with
      | none => s
      | some (slot, s1) => takeFallen fuel (s1.takeDeadline slot)

/-- Every fallen retained deadline: each of 48 entries holds one, and a staging deadline gives its entry
one gap deadline more (R202). -/
def State.takeAllFallen (s : State) : State := takeFallen 96 s

/-- STAGING_DEADLINE (R18). -/
def execStagingDeadline (slot : Nat) (s : State) : Host.Outcome State Fault Refusal :=
  .next ((s.expireStaging slot).settle s)

/-- GAP_DEADLINE (R64). -/
def execGapDeadline (slot : Nat) (s : State) : Host.Outcome State Fault Refusal :=
  .next ((s.expireGap slot).settle s)

end Sys2Proof.Machine
end

