-- ==== Sys2Proof/Machine/Ports.lean ====
section
/-! DEFINITION. The access filter: region map, judgement of a host access, the acknowledge word, and the
end of an operation that concerns the ports (chapter 07, R187). -/

namespace Sys2Proof.Machine

/-- The regions of the region map below capacity (R146), with the word offset in the block. -/
inductive Region where
  | setupBlock
  | statusBlock (word : Nat)
  | window (word : Nat)
  | log
  | plain
deriving DecidableEq, Repr

/-- Does the block of `size` bytes at `base` hold the address? -/
def inBlock (base size a : Nat) : Bool := base ≤ a && a < base + size

/-- The region that holds an address (R146). With no setup in force the map has the setup block and
plain memory (R176). -/
def regionOf (setup : Option Setup) (a : Nat) : Region :=
  if a < 256 then .setupBlock
  else match setup with
    | none => .plain
    | some c =>
      if inBlock c.statusBase 192 a then .statusBlock ((a - c.statusBase) / 4)
      else if inBlock c.windowBase 128 a then .window ((a - c.windowBase) / 4)
      else if inBlock c.logBase (4 * c.logSize) a then .log
      else .plain

/-- Is the address in the report window of the setup in force (R93)? -/
def inWindow (setup : Option Setup) (a : Nat) : Bool :=
  match setup with
  | none => false
  | some c => inBlock c.windowBase 128 a

/-- Is the address at or above the capacity of the setup in force (R145 test 4)? -/
def beyondCapacity (setup : Option Setup) (a : Nat) : Bool :=
  match setup with
  | none => false
  | some c => c.capacityBytes ≤ a

/-- Is the setup block writable (R150)? -/
def State.writable (s : State) : Bool :=
  s.setup.load.isNone &&
    (s.supply.part == .opened || (s.supply.part == .running && !s.anyAboard))

/-- A taken acknowledge, in one operation (R187): named causes cleared, a HALTED writer restarted,
counters cleared, echo. Every one raises a demand. -/
def State.acknowledge (s : State) (data : Word) : State :=
  let named : BitVec 13 := data.extractLsb' 0 13
  let clear := data.getLsbD 31
  { s with
    alert := { s.alert with
      latched := s.alert.latched &&& ~~~ named
      counters := if clear then Counters.zero else s.alert.counters
      echo := some { clear := clear, causes := named } }
    writer := { s.writer with
      state := if Cause.inSet .writerFault named && s.writer.state == .halted then .idle
        else s.writer.state }
    status := { s.status with demand := true } }

/-- A narrow write into the report window (R100, R149): ERROR without a memory access, an access error
kept with reason NARROW_WINDOW, and the report under assembly refused NARROW_WRITE. -/
def State.narrowWindow (s : State) (a : HostAccess) : State :=
  ((s.accessError a .narrowWindow).refuseAssembly .narrowWrite).answer a .error

/-- An access refused under R153: ERROR without a memory access. -/
def State.refuseAccess (s : State) (a : HostAccess) (reason : RejectReason) : State :=
  (s.accessError a reason).answer a .error

/-- The treatment of a full-word write by region (R148, R150 to R152). -/
def State.judgeFullWrite (s : State) (a : HostAccess) (r : Region) : State :=
  match r with
  | .plain => s.askUpstream a .write
  | .setupBlock =>
    if s.writable then s.askUpstream a .write else s.askUpstream a (.suppressed .setupLocked)
  | .statusBlock w =>
    if w = 47 then (s.acknowledge a.data).answer a .writeOk
    else s.askUpstream a (.suppressed .statusProtected)
  | .window w => s.askUpstream a (.windowWrite w)
  | .log => s.askUpstream a (.suppressed .logProtected)

/-- The treatment of a narrow write by region (R149 to R151, R100). -/
def State.judgeNarrowWrite (s : State) (a : HostAccess) (r : Region) : State :=
  match r with
  | .plain => s.askUpstream a .rmwRead
  | .setupBlock =>
    if s.writable then s.askUpstream a .rmwRead else s.askUpstream a (.suppressed .setupLocked)
  | .statusBlock _ => s.askUpstream a (.suppressed .statusProtected)
  | .window _ => s.narrowWindow a
  | .log => s.askUpstream a (.suppressed .logProtected)

/-- Is the part STARTING? -/
def PartState.isStarting : PartState → Bool
  | .starting _ => true
  | .opened => false
  | .scanning => false
  | .running => false
  | .retain => false

/-- Tests 1 and 2 of R145: is the access held? -/
def State.mustHold (s : State) (a : HostAccess) : Bool :=
  s.supply.part.isStarting ||
    (a.dir == .write && inWindow s.setup.inForce a.addr.toNat && s.assembler.waiting.isSome)

/-- The judgement of a host access by the access filter: the five tests in order (R145). -/
def State.judge (s : State) (a : HostAccess) : State :=
  if s.mustHold a then s.hold a
  else if !a.aligned then s.refuseAccess a .misaligned
  else if beyondCapacity s.setup.inForce a.addr.toNat then s.refuseAccess a .beyondCapacity
  else match a.dir with
    | .read => s.askUpstream a .read
    | .write =>
      match a.width with
      | .four => s.judgeFullWrite a (regionOf s.setup.inForce a.addr.toNat)
      | .two => s.judgeNarrowWrite a (regionOf s.setup.inForce a.addr.toNat)
      | .one => s.judgeNarrowWrite a (regionOf s.setup.inForce a.addr.toNat)

/-- A held access is judged as newly arrived; it is held again if its hold has not ended (R142). -/
def State.judgeHeld (s : State) : State :=
  match s.port.current with
  | some { acc := a, phase := .held } =>
    ({ s with port := { s.port with current := none } }).judge a
  | _ => s

/-- The accesses waiting behind are judged in turn while the port carries none (R142). -/
def takeBehind : List HostAccess → State → State
  | [], s => { s with port := { s.port with behind := [] } }
  | a :: rest, s =>
    match s.port.current with
    | some _ => { s with port := { s.port with behind := a :: rest } }
    | none => takeBehind rest (s.judge a)

/-- What the upstream port does when its carried access may have moved on (R142). -/
def State.pump (s : State) : State :=
  let s1 := s.judgeHeld
  takeBehind s1.port.behind s1

/-- The end of an operation that freed or asked for a port: the upstream port goes on, what the
operation changed raises a demand, the memory port is granted, and the operation settles. -/
def State.settlePorts (s before : State) : State :=
  let s1 := s.pump
  (s1.raiseDemand before).arbitrate.judgeLine.seal

/-- A host access arrives at the upstream port (R142): taken in no state where the port is inactive. -/
def State.hostAccess (s : State) (a : HostAccess) : State :=
  if s.supply.part = .retain then s
  else State.settlePorts { s with port := { s.port with behind := s.port.behind ++ [a] } } s

end Sys2Proof.Machine
end

