-- ==== Sys2Proof/Machine/Reports.lean ====
section
/-! DEFINITION. Reports: stop state, EXPORTED and TIME handlers, hand-over (R102 to R105), assembly
(R96 to R101), and the report commands (chapter 05). -/

namespace Sys2Proof.Machine

/-! ## Stop state (R47) -/

/-- The STOP record (R47). -/
def stopRecord (t : Nat) (n : Half) (arrive : Bool) : QEntry :=
  { time := t, slot := none, body := .stop n arrive }

/-- Stop number of a STOP body (R214). -/
def Report.stopNumber (r : Report) : Half := (r.word 1).extractLsb' 16 16

/-- The STOP ARRIVE handler (R47). -/
def State.handleArrive (s : State) (r : Report) : State :=
  if s.stop.isSome then s.refuse r.seq .wrongState
  else if s.room < 1 then s.refuse r.seq .queueFull
  else (({ s with stop := some r.stopNumber }).produce (stopRecord s.now r.stopNumber true)).take r.seq

/-- The STOP DEPART handler (R47). -/
def State.handleDepart (s : State) (r : Report) : State :=
  if s.stop ≠ some r.stopNumber then s.refuse r.seq .wrongState
  else if s.room < 1 then s.refuse r.seq .queueFull
  else (({ s with stop := none }).produce (stopRecord s.now r.stopNumber false)).take r.seq

/-- A STOP report goes by its indication: 1 ARRIVE, 2 DEPART (R214). -/
def State.handleStop (s : State) (r : Report) : State :=
  if bits (r.word 1) 1 0 = 1 then s.handleArrive r else s.handleDepart r

/-! ## TIME (R211) -/

/-- The TIME handler (R211, R112). -/
def State.handleTime (s : State) (r : Report) : State :=
  if s.room < 1 then s.refuse r.seq .queueFull
  else (s.produce { time := s.now, slot := none, body := .time (r.word 1) (r.word 2) }).take r.seq

/-! ## EXPORTED (R138 to R141) -/

/-- The last exported record sequence s of an EXPORTED body (R113). -/
def Report.exportSeq (r : Report) : Word := r.word 1

/-- The new tail position p of an EXPORTED body (R113). -/
def Report.exportTail (r : Report) : Nat := (r.word 2).toNat

/-- Words from the tail up to a position, modulo the size (R138, R140). -/
def exportSpan (size : Nat) (l : LogState) (p : Nat) : Nat := (p + size - l.tail) % size

/-- The conditions of R138 under which the word at p is read. -/
def exportReadable (cfg : Setup) (l : LogState) (p : Nat) : Bool :=
  p < cfg.logSize && exportSpan cfg.logSize l p < l.used

/-- The word at p carries the marker and the sequence tag of s + 1 (R138). -/
def exportWordOk (s : Word) (w : Word) : Bool := hasMarker w && sequenceTag w == sequenceTag (s + 1)

/-- A taken EXPORTED moves the tail to p; LOG_NEAR_FULL is judged (R140). -/
def State.takeExport (st : State) (r : Report) (l : LogState) : State :=
  let p := r.exportTail
  let used := if p = l.head then 0 else l.used - exportSpan st.cfg.logSize l p
  let s1 : State := { st with writer := { st.writer with
    log := some { head := l.head, tail := p, used := used, nextSeq := l.nextSeq } } }
  s1.judgeNearFull.take r.seq

/-- The judgement at hand-over (R138, R139): decided at once when p is the head or no read is to be made;
otherwise the report is in handling and the internal reader asks for the word at p. -/
def State.handleExported (st : State) (r : Report) : State :=
  match st.writer.log with
  | none => st.refuse r.seq .badExport
  | some l =>
    if r.exportTail = l.head then
      if r.exportSeq + 1 = l.nextSeq then st.takeExport r l else st.refuse r.seq .badExport
    else if exportReadable st.cfg l r.exportTail then
      ({ st with assembler := { st.assembler with handling := some r } }).askReader .exportCheck
    else st.refuse r.seq .badExport

/-- The judgement when the word at p has been read (R138, R139): against the pointers then standing. -/
def State.judgeExport (st : State) (r : Report) (word : Option Word) : State :=
  match st.writer.log, word with
  | none, _ => st.refuse r.seq .badExport
  | _, none => st.refuse r.seq .badExport
  | some l, some w =>
    if r.exportTail = l.head then
      if r.exportSeq + 1 = l.nextSeq then st.takeExport r l else st.refuse r.seq .badExport
    else if exportReadable st.cfg l r.exportTail && exportWordOk r.exportSeq w then st.takeExport r l
    else st.refuse r.seq .badExport

/-! ## Hand-over -/

/-- The handler of each kind (R94). -/
def State.handle (s : State) (r : Report) : State :=
  match r.kind with
  | .reading => s.handleReading r
  | .load => s.handleLoad r
  | .move => s.handleMove r
  | .handover => s.handleHandover r
  | .withdraw => s.handleWithdraw r
  | .stop => s.handleStop r
  | .exported => s.handleExported r
  | .time => s.handleTime r
  | .query => s.handleQuery r

/-- Is the part ready to hand a report over: RUNNING with no setup load in flight (R104)? -/
def State.ready (s : State) : Bool := s.supply.part == .running && s.setup.load.isNone

/-- A report goes to its handler: readiness, encoding, then the handler's own checks (R104, R105). -/
def State.handOver (s : State) (r : Report) : State :=
  if !s.ready then s.refuse r.seq .notReady
  else if !encodingOk s.cfg r then s.refuse r.seq .badField
  else s.handle r

/-- A complete report goes to its handler at once, or becomes the waiting report while one is in handling
(R102). With both places full nothing more can arrive (R103): the report is not taken (log 7). -/
def State.complete (s : State) (r : Report) : State :=
  match s.assembler.handling with
  | none => s.handOver r
  | some _ =>
    match s.assembler.waiting with
    | none => { s with assembler := { s.assembler with waiting := some r } }
    | some _ => s

/-- The report in handling is decided: the waiting report goes to its handler (R102). -/
def State.releaseWaiting (s : State) : State :=
  match s.assembler.waiting with
  | none => { s with assembler := { s.assembler with handling := none } }
  | some r =>
    ({ s with assembler := { s.assembler with handling := none, waiting := none } }).handOver r

/-! ## Assembly -/

/-- Chill-clock time in 1/64 seconds (R96). -/
def Clock.ticks (c : Clock) : Nat := c.seconds * 64 + c.sub

/-- The completion deadline: 2 s after the header's arrival, held at the clock's stop (R96, R194). -/
def completionDeadline (c : Clock) : Nat := min (c.ticks + 128) (maxWord * 64)

/-- A header is judged in IDLE (R96). -/
def State.judgeHeader (s : State) (h : Word) : State :=
  match kindOfCode (bits h 15 12) with
  | none => s.refuse (headerSeq h) .badHeader
  | some k =>
    if lengthInRange k (headerLength h) then
      let c : Collecting :=
        { header := h, kind := k, words := [], deadline := completionDeadline s.clock }
      { s with assembler := { s.assembler with collecting := some c } }
    else s.refuse (headerSeq h) .badHeader

/-- The report that a correct check word completes (R97). -/
def Collecting.report (c : Collecting) : Report :=
  { seq := headerSeq c.header, kind := c.kind, rsv := headerRsv c.header, body := c.words }

/-- A window write is fed to the assembler (R96 to R99). -/
def State.feed (s : State) (offset : Nat) (w : Word) : State :=
  if offset = 0 then (s.refuseAssembly .overtaken).judgeHeader w
  else match s.assembler.collecting with
    | none => s
    | some c =>
      if offset ≠ c.words.length + 1 then s.refuseAssembly .outOfOrder
      else if offset ≠ headerLength c.header + 1 then
        { s with assembler := { s.assembler with
            collecting := some { c with words := c.words ++ [w] } } }
      else if checkWordOk c.header c.words w then
        ({ s with assembler := { s.assembler with collecting := none } }).complete c.report
      else s.refuseAssembly .checkFailed

/-- The completion deadline expires if it has been reached (R101). -/
def State.expireAssembly (s : State) : State :=
  match s.assembler.collecting with
  | none => s
  | some c =>
    if s.supply.part != .retain && c.deadline ≤ s.clock.ticks then s.refuseAssembly .timedOut else s

/-! ## Commands -/

/-- A report can complete in SCANNING and RUNNING alone (R93, R104, R195). -/
def PartState.reportsComplete : PartState → Bool
  | .starting _ => false
  | .opened => false
  | .scanning => true
  | .running => true
  | .retain => false

/-- A complete report arrives for hand-over as a command of its own (log 7). Where no report completes
nothing arrives (log 6). -/
def State.reportArrives (s : State) (r : Report) : State :=
  if s.supply.part.reportsComplete then (s.complete r).settle s else s

/-- The body words of a reference (R214). -/
def referenceBody (reference : BitVec 64) : List Word := referenceWords reference

/-- TIMED_OUT (R101). -/
def execTimedOut (s : State) : Host.Outcome State Fault Refusal :=
  .next (s.expireAssembly.settle s)

/-- READING (R110). -/
def execReading (seq : Half) (rsv : BitVec 7) (body : List Word) (s : State) :
    Host.Outcome State Fault Refusal :=
  .next (s.reportArrives { seq := seq, kind := .reading, rsv := rsv, body := body })

/-- LOAD (R12). -/
def execLoad (seq : Half) (rsv : BitVec 7) (reference : BitVec 64) (placement : Word) (s : State) :
    Host.Outcome State Fault Refusal :=
  .next (s.reportArrives
    { seq := seq, kind := .load, rsv := rsv, body := referenceBody reference ++ [placement] })

/-- MOVE (R20). -/
def execMove (seq : Half) (rsv : BitVec 7) (reference : BitVec 64) (target : Word) (s : State) :
    Host.Outcome State Fault Refusal :=
  .next (s.reportArrives
    { seq := seq, kind := .move, rsv := rsv, body := referenceBody reference ++ [target] })

/-- WITHDRAW (R24). -/
def execWithdraw (seq : Half) (rsv : BitVec 7) (reference : BitVec 64) (s : State) :
    Host.Outcome State Fault Refusal :=
  .next (s.reportArrives
    { seq := seq, kind := .withdraw, rsv := rsv, body := referenceBody reference })

/-- HANDOVER (R25). -/
def execHandover (seq : Half) (rsv : BitVec 7) (reference : BitVec 64) (receiver : Option Word)
    (s : State) : Host.Outcome State Fault Refusal :=
  .next (s.reportArrives
    { seq := seq, kind := .handover, rsv := rsv
      body := referenceBody reference ++ receiver.toList })

/-- ARRIVE (R47). -/
def execArrive (seq : Half) (rsv : BitVec 7) (stopNumber : Half) (bodyRsv : BitVec 14) (s : State) :
    Host.Outcome State Fault Refusal :=
  .next (s.reportArrives
    { seq := seq, kind := .stop, rsv := rsv, body := [stopNumber ++ bodyRsv ++ 1#2] })

/-- DEPART (R47). -/
def execDepart (seq : Half) (rsv : BitVec 7) (stopNumber : Half) (bodyRsv : BitVec 14) (s : State) :
    Host.Outcome State Fault Refusal :=
  .next (s.reportArrives
    { seq := seq, kind := .stop, rsv := rsv, body := [stopNumber ++ bodyRsv ++ 2#2] })

/-- EXPORTED (R140), with the memory port for its read (R139). -/
def execExported (seq : Half) (rsv : BitVec 7) (lastSeq newTail : Word) (s : State) :
    Host.Outcome State Fault Refusal :=
  if s.supply.part.reportsComplete then
    .next ((s.complete
      { seq := seq, kind := .exported, rsv := rsv, body := [lastSeq, newTail] }).settlePorts s)
  else .next s

/-- EXPORT_CHECK_READ (R138, R139): the read at p completes and the report in handling is decided; the
waiting report goes to its handler (R102) and a held window write is released (R103). -/
def execExportCheckRead (m : MemAnswer) (s : State) : Host.Outcome State Fault Refusal :=
  match s.arbiter.owner, s.assembler.handling with
  | some (.reader .exportCheck), some r =>
    let word := s.memRead m (s.cfg.logAddr r.exportTail)
    .next ((s.freePort.judgeExport r word).releaseWaiting.settlePorts s)
  | _, _ => .next s

/-- TIME (R211). -/
def execTime (seq : Half) (rsv : BitVec 7) (calendarHigh calendarLow : Word) (s : State) :
    Host.Outcome State Fault Refusal :=
  .next (s.reportArrives
    { seq := seq, kind := .time, rsv := rsv, body := [calendarHigh, calendarLow] })

/-- QUERY (R114). -/
def execQuery (seq : Half) (rsv : BitVec 7) (reference : BitVec 64) (s : State) :
    Host.Outcome State Fault Refusal :=
  .next (s.reportArrives
    { seq := seq, kind := .query, rsv := rsv, body := referenceBody reference })

end Sys2Proof.Machine
end

