-- ==== Sys2Proof/Machine/ClockTick.lean ====
section
/-! DEFINITION. The advance of the chill clock and the allowance expiries (R43, R193, R194). -/

namespace Sys2Proof.Machine

/-- GRACE_EXPIRY (R43, R44). Nothing happens before the expiry time is reached (log 6). -/
def execGraceExpiry (compartment : Nat) (machine : MachineName) (s : State) :
    Host.Outcome State Fault Refusal :=
  .next ((s.mapMachine compartment machine (fun m => m.expireGrace s.reached)).settle s)

/-- RECOVERY_EXPIRY (R43, R44). -/
def execRecoveryExpiry (compartment : Nat) (machine : MachineName) (s : State) :
    Host.Outcome State Fault Refusal :=
  .next ((s.mapMachine compartment machine (fun m => m.expireRecovery s.reached)).settle s)

/-- The machine after every expiry that has been reached (R43). -/
def Allowance.expireDue (m : Allowance) (reached : Nat → Bool) : Allowance :=
  (m.expireGrace reached).expireRecovery reached

/-- Both machines of a compartment after every expiry that has been reached (R43). -/
def Compartment.expireDue (c : Compartment) (reached : Nat → Bool) : Compartment :=
  { c with doorMachine := c.doorMachine.expireDue reached
           defrostMachine := c.defrostMachine.expireDue reached }

/-- Every allowance expiry that has been reached (R43). -/
def State.expireMachines (s : State) : State :=
  { s with compartments := s.compartments.map (fun c => c.expireDue s.reached) }

/-- The deadlines of the second that is ending which no command has taken (R194, log 10). No block acts in
RETAIN. -/
def State.expireSecond (s : State) : State :=
  if s.supply.part = .retain then s else s.expireMachines.expireCadence.takeAllFallen

/-- Does the next advance leave this second: the sub-count wraps, or the clock has stopped (R193)? -/
def Clock.leavesSecond (c : Clock) : Bool := c.sub == 63 || maxWord ≤ c.seconds

/-- The counts after one advance; both stop at the largest seconds count (R193). -/
def Clock.advance (c : Clock) : Clock :=
  if maxWord ≤ c.seconds then c
  else if c.sub = 63 then { seconds := c.seconds + 1, sub := 0 }
  else { seconds := c.seconds, sub := c.sub + 1 }

/-- One advance of the chill clock, with what was still due before it (R193, R194, log 10). -/
def State.advanceClock (s : State) : State :=
  let s1 := s.expireAssembly
  let s2 := if s.clock.leavesSecond then s1.expireSecond else s1
  { s2 with clock := s2.clock.advance }

/-- CHILL_CLOCK_ADVANCE (R193). While the backup domain is lost the clock stands (R197, log 17). -/
def execChillClockAdvance (s : State) : Host.Outcome State Fault Refusal :=
  if s.supply.domainHeld then .next (s.advanceClock.settle s) else .next s

end Sys2Proof.Machine
end

