-- ==== Sys2Proof/Machine/HostPort.lean ====
section
/-! DEFINITION. Host accesses (chapter 07): the access as it arrives, and the completion of its memory
accesses by the treatment the filter gave it. -/

namespace Sys2Proof.Machine

/-! ## Completions -/

/-- A host access whose memory access ended FAULT (R154). -/
def State.memoryFault (s : State) (a : HostAccess) : State :=
  (s.accessError a .memoryFault).answer a .error

/-- The word read of a host read has completed (R147). -/
def State.finishRead (s : State) (a : HostAccess) (m : MemAnswer) : State :=
  match s.memRead m a.wordAddr with
  | some w => s.answer a (.readOk (a.namedBytes w))
  | none => s.memoryFault a

/-- A full-word write to setup word 63, byte address 252, completing OK hands a load trigger only if no
account entry is aboard at that moment (R150). -/
def State.triggersLoad (s : State) (a : HostAccess) : Bool := a.addr == 252#24 && !s.anyAboard

/-- The word write of a full-word host write to plain memory or the setup block has completed (R148); a
load trigger is handed over before the answer (R150). -/
def State.finishWrite (s : State) (a : HostAccess) (m : MemAnswer) : State :=
  let s1 := s.memWrite m a.wordAddr a.data
  if m.isOk then (if s1.triggersLoad a then s1.raiseLoad else s1).answer a .writeOk
  else s1.memoryFault a

/-- The word write of a report-window write has completed: stored, fed, answered (R93, R148). -/
def State.finishWindow (s : State) (a : HostAccess) (offset : Nat) (m : MemAnswer) : State :=
  let s1 := s.memWrite m a.wordAddr a.data
  if m.isOk then (s1.feed offset a.data).answer a .writeOk else s1.memoryFault a

/-- The read of a read-modify-write has completed: the named bytes are replaced and the write asked for
under the lockout, or on FAULT the lockout ends (R149, R158). -/
def State.finishRmwRead (s : State) (a : HostAccess) (m : MemAnswer) : State :=
  match s.memRead m a.wordAddr with
  | some w => s.askUpstream a (.rmwWrite (a.merge w))
  | none => s.endLockout.memoryFault a

/-- The write of a read-modify-write has completed and its lockout ends (R149). -/
def State.finishRmwWrite (s : State) (a : HostAccess) (merged : Word) (m : MemAnswer) : State :=
  let s1 := (s.memWrite m a.wordAddr merged).endLockout
  if m.isOk then s1.answer a .writeOk else s1.memoryFault a

/-- The read standing in for a suppressed write has completed, OK or FAULT (R151). -/
def State.finishSuppressed (s : State) (a : HostAccess) (reason : RejectReason) : State :=
  (s.protectViolation a reason).answer a .error

/-- The completion of one memory access of a host access, by its treatment. -/
def State.finishJob (s : State) (a : HostAccess) (job : HostJob) (m : MemAnswer) : State :=
  match job with
  | .read => s.finishRead a m
  | .write => s.finishWrite a m
  | .windowWrite offset => s.finishWindow a offset m
  | .rmwRead => s.finishRmwRead a m
  | .rmwWrite merged => s.finishRmwWrite a merged m
  | .suppressed reason => s.finishSuppressed a reason

/-- The host access whose memory access is in progress, with its treatment (R142, R156). -/
def State.upstreamJob (s : State) : Option (HostAccess × HostJob) :=
  match s.arbiter.owner, s.port.current with
  | some .upstream, some { acc := a, phase := .atMemory job } => some (a, job)
  | _, _ => none

/-! ## Commands -/

/-- HOST_ACCESS (R145). -/
def execHostAccess (acc : HostAccess) (s : State) : Host.Outcome State Fault Refusal :=
  .next (s.hostAccess acc)

/-- PASS_THROUGH_READ (R147). Without such a read in progress nothing completes (log 6). -/
def execPassThroughRead (m : MemAnswer) (s : State) : Host.Outcome State Fault Refusal :=
  match s.upstreamJob with
  | some (a, .read) => .next ((s.freePort.finishRead a m).settlePorts s)
  | _ => .next s

/-- PASS_THROUGH_WRITE (R148). -/
def execPassThroughWrite (m : MemAnswer) (s : State) : Host.Outcome State Fault Refusal :=
  match s.upstreamJob with
  | some (a, .write) => .next ((s.freePort.finishWrite a m).settlePorts s)
  | _ => .next s

/-- RMW_READ_DONE (R149). -/
def execRmwReadDone (m : MemAnswer) (s : State) : Host.Outcome State Fault Refusal :=
  match s.upstreamJob with
  | some (a, .rmwRead) => .next ((s.freePort.finishRmwRead a m).settlePorts s)
  | _ => .next s

/-- RMW_WRITE_DONE (R149). -/
def execRmwWriteDone (m : MemAnswer) (s : State) : Host.Outcome State Fault Refusal :=
  match s.upstreamJob with
  | some (a, .rmwWrite merged) => .next ((s.freePort.finishRmwWrite a merged m).settlePorts s)
  | _ => .next s

/-- SUPPRESSED_WRITE (R151): the outcome of its read makes no difference. -/
def execSuppressedWrite (_m : MemAnswer) (s : State) : Host.Outcome State Fault Refusal :=
  match s.upstreamJob with
  | some (a, .suppressed reason) => .next ((s.freePort.finishSuppressed a reason).settlePorts s)
  | _ => .next s

/-- REPORT_WINDOW_WRITE (R93). -/
def execReportWindowWrite (m : MemAnswer) (s : State) : Host.Outcome State Fault Refusal :=
  match s.upstreamJob with
  | some (a, .windowWrite offset) => .next ((s.freePort.finishWindow a offset m).settlePorts s)
  | _ => .next s

/-- LOAD_TRIGGER (R166): the passed write to setup word 63 completes OK while it hands a trigger. Any
other write in progress is not this event (log 8). -/
def execLoadTrigger (s : State) : Host.Outcome State Fault Refusal :=
  match s.upstreamJob with
  | some (a, .write) =>
    if s.triggersLoad a then .next ((s.freePort.finishWrite a .ok).settlePorts s) else .next s
  | _ => .next s

/-- The host access a command stands for, at a byte offset from a base in the setup in force (log 8). -/
def hostWrite (base offset : Nat) (width : Width) (data : Word) : HostAccess :=
  { addr := BitVec.ofNat 24 (base + offset), width := width, dir := .write, data := data }

/-- NARROW_WINDOW_WRITE (R100): a narrow host write at an offset of the report window. Without a setup in
force there is no window (R176, log 8). -/
def execNarrowWindowWrite (offset : BitVec 7) (width : NarrowWidth) (data : Word) (s : State) :
    Host.Outcome State Fault Refusal :=
  match s.setup.inForce with
  | none => .next s
  | some c => .next (s.hostAccess (hostWrite c.windowBase offset.toNat width.width data))

/-- ACKNOWLEDGE (R187): a full-word host write to status word 47 (log 8). -/
def execAcknowledge (data : Word) (s : State) : Host.Outcome State Fault Refusal :=
  match s.setup.inForce with
  | none => .next s
  | some c => .next (s.hostAccess (hostWrite c.statusBase 188 .four data))

/-- CLEAR_COUNTERS (R189): an acknowledge with the clear-counters flag set (log 8). -/
def execClearCounters (causes : BitVec 13) (s : State) : Host.Outcome State Fault Refusal :=
  match s.setup.inForce with
  | none => .next s
  | some c => .next (s.hostAccess (hostWrite c.statusBase 188 .four (1#1 ++ 0#18 ++ causes)))

end Sys2Proof.Machine
end

