-- ==== Sys2Proof/Machine/Restart.lean ====
section
/-! DEFINITION. What every restart shares (chapter 10): the restart values of the transient state, the
writer and setup result a restart leaves, the reset line acting, and the start of the cold-start path. -/

namespace Sys2Proof.Machine

/-- The arbiter after any restart (R156). -/
def Arbiter.idle : Arbiter :=
  { owner := none, lockout := none, fairness := 0, upstream := false, writer := false, reader := [],
    status := false }

/-- The report assembler in IDLE with both hand-over places empty (R96). -/
def Assembler.empty : Assembler := { collecting := none, waiting := none, handling := none }

/-- The empty receipt (R109). -/
def Receipt.empty : Receipt := { latest := none, recordedThrough := none, mark := none }

/-- The transient state of every block is lost (R196, R198), a held SETUP record with it (R174).
LOG_NEAR_FULL is taken afresh (R124). -/
def State.clearTransients (s : State) : State :=
  ({ s with
    compartments := s.compartments.map Compartment.loseTransient
    cadence := Cadence.fresh
    assembler := Assembler.empty
    receipt := Receipt.empty
    setup := { s.setup with load := none, heldRecord := false }
    scanner := none
    alert := { s.alert with echo := none, view := none }
    status := { s.status with demand := false, rewrite := none }
    arbiter := Arbiter.idle
    rejected := none }).refreshNearFull

/-- A record being written is abandoned by a restart, and its writer is IDLE (R137). -/
def WriterState.abandon (w : WriterState) : WriterState :=
  match w with
  | .idle => .idle
  | .waitingSpace => .waitingSpace
  | .writing _ _ _ => .idle
  | .verifying _ _ => .idle
  | .halted => .halted

/-- A load in flight is abandoned by a restart (R162, R177). -/
def SetupResult.abandon (r : SetupResult) : SetupResult :=
  match r with
  | .inFlight => .abandoned
  | .none => .none
  | .accepted => .accepted
  | .rejected reason => .rejected reason
  | .abandoned => .abandoned

/-- Step 1 of R201: transient state, unit-off standing, writer, last setup result. -/
def State.restartValues (s : State) : State :=
  let s1 := s.clearTransients
  { s1 with
    compartments := s1.compartments.map Compartment.restart
    writer := { s1.writer with state := s1.writer.state.abandon }
    setup := { s1.setup with lastResult := s1.setup.lastResult.abandon } }

/-- The part state changes. -/
def State.enter (s : State) (p : PartState) : State := { s with supply := { s.supply with part := p } }

/-- The reset line acts, work in progress having been brought to an end (R204). -/
def State.beginReset (s : State) : State :=
  let s1 := s.restartValues
  { s1 with supply := { s1.supply with part := .starting .resetLine, resetTime := some s.now } }

/-- The clearing step of the cold-start path, with the retained outcome to carry (R206). -/
def State.clearingStep (s : State) (outcome : ColdOutcome) : State :=
  let s1 := { s with
    clock := { seconds := 0, sub := 0 }
    supply := { s.supply with
      part := .starting .coldLoad, domainHeld := true, retainedValid := false,
      coldOutcome := some outcome, powerLoss := none }
    accounts := List.replicate 48 .free
    compartments := []
    stop := none
    queue := { entries := [], loss := none }
    writer := { state := .idle, log := none, chain := checkStart, nearFull := false }
    setup := { s.setup with inForce := none, lastResult := .none }
    alert := { s.alert with latched := 0, counters := Counters.zero }
    status := { s.status with gen := 0 } }
  s1.clearTransients

/-- The cold-start path: the clearing step, then the load trigger (R206, R166). -/
def State.coldStart (s : State) (outcome : ColdOutcome) : State := (s.clearingStep outcome).raiseLoad

/-- The rerun of the cold-start path from its setup load (R205). -/
def State.rerun (s : State) : State :=
  ({ s.enter (.starting .coldLoad) with
    setup := { s.setup with inForce := none }
    compartments := [] }).raiseLoad

end Sys2Proof.Machine
end

