-- ==== Sys2Proof/Machine/Status.lean ====
section
/-! DEFINITION. The status updater (chapter 09, R179 to R182). -/

namespace Sys2Proof.Machine

/-- The word written as number `n` of a rewrite: words 0 to 45, then 47, then 46 (R179). -/
def statusOrder (n : Nat) : Nat := if n = 46 then 47 else if n = 47 then 46 else n

/-- Byte address of a status word (R178). -/
def statusAddr (cfg : Setup) (word : Nat) : Nat := cfg.statusBase + 4 * word

/-- The status block exists and the updater may write: SCANNING or RUNNING (R178, R182). -/
def State.statusActive (s : State) : Bool :=
  s.setup.inForce.isSome && (s.supply.part == .scanning || s.supply.part == .running)

/-- While a demand stands and no rewrite is in progress, the updater begins one (R179). -/
def State.beginRewrite (s : State) : State :=
  if s.statusActive && s.status.demand && s.status.rewrite.isNone then s.askStatus else s

/-- The rewrite goes on with its next word (R179, R160). -/
def State.nextStatusWord (s : State) (picture : List Word) (written : Nat) : State :=
  { s with
    status := { s.status with rewrite := some (.writing picture written) }
    arbiter := { s.arbiter with status := true } }

/-- The rewrite is complete or abandoned. -/
def State.endRewrite (s : State) : State := { s with status := { s.status with rewrite := none } }

/-- The scanner at the start of the log scan (R208). -/
def Scanner.start : Scanner :=
  { position := 0, words := [], spoiled := false, highest := none, lowest := none, count := 0 }

/-- The log scan starts with its first read (R208). -/
def State.startScan (s : State) : State :=
  ({ s with scanner := some Scanner.start }).askReader .logScanner

/-- The log scan of a cold start comes behind the first picture (R206): it starts when that picture has been
written, or abandoned at a FAULT (log 38). -/
def State.startScanIfDue (s : State) : State :=
  if s.supply.part = .scanning ∧ s.scanner = none then s.startScan else s

/-- A status word has been written: the next in order, or the end of the picture, at which a standing
demand begins the next rewrite (R179); a FAULT abandons the rewrite and latches WRITER_FAULT (R181). The
end of the first picture in SCANNING starts the log scan (R206). -/
def State.statusWritten (s : State) (picture : List Word) (n : Nat) (m : MemAnswer) : State :=
  let s1 := s.memWrite m (statusAddr s.cfg (statusOrder n)) (picture.getD (statusOrder n) 0)
  if m.isOk then
    if n < 47 then s1.nextStatusWord picture (n + 1) else s1.endRewrite.beginRewrite.startScanIfDue
  else (s1.endRewrite.latch .writerFault).startScanIfDue

/-! ## Commands -/

/-- STATUS_REWRITE (R179). -/
def execStatusRewrite (s : State) : Host.Outcome State Fault Refusal :=
  .next (s.beginRewrite.settlePorts s)

/-- STATUS_WORD_WRITE (R179). -/
def execStatusWordWrite (m : MemAnswer) (s : State) : Host.Outcome State Fault Refusal :=
  match s.arbiter.owner, s.status.rewrite with
  | some .status, some (.writing picture n) =>
    .next ((s.freePort.statusWritten picture n m).settlePorts s)
  | _, _ => .next s

end Sys2Proof.Machine
end

