-- ==== Sys2Proof/Machine/Writer.lean ====
section
/-! DEFINITION. The log writer (chapter 06): taking an entry, assembly, the record's writes, the
read-back, commit and halt. -/

namespace Sys2Proof.Machine

/-- The opening record sequence of the account in a record's slot, as a CLOSED record takes it at
assembly (R26, R131). -/
def State.openSeqOf (s : State) (e : QEntry) : Option Word :=
  match e.slot with
  | none => none
  | some slot =>
    match s.account slot with
    | .closing _ opening _ => opening.bind Opening.recordSeq
    | .free => none
    | .staged _ _ => none
    | .tracked _ _ => none

/-- The record of an entry is assembled and its first word is asked for (R131, R132). -/
def State.assemble (s : State) (e : QEntry) (l : LogState) : State :=
  let ws := coveredWords e l.nextSeq (s.openSeqOf e)
  ({ s with writer := { s.writer with
      state := .writing (ws ++ [trailerWord s.writer.chain ws]) (chainValue s.writer.chain ws) 0
    } }).askWriter

/-- The writer enters WAITING_SPACE, which latches LOG_FULL (R125, R131). -/
def State.waitForSpace (s : State) : State :=
  ({ s with writer := { s.writer with state := .waitingSpace } }).latch .logFull

/-- The front entry is taken by an IDLE writer in RUNNING (R131). -/
def State.takeEntry (s : State) : State :=
  match s.writer.state, s.queue.entries, s.writer.log with
  | .idle, e :: _, some l =>
    if s.supply.part = .running then
      if freeWords s.cfg l < e.recordLength then s.waitForSpace else s.assemble e l
    else s
  | _, _, _ => s

/-- The held entry fits at last (R131). -/
def State.findSpace (s : State) : State :=
  match s.writer.state, s.queue.entries, s.writer.log with
  | .waitingSpace, e :: _, some l =>
    if s.supply.part = .running ∧ e.recordLength ≤ freeWords s.cfg l then s.assemble e l else s
  | _, _, _ => s

/-- The writer halts (R134): lockout ended, record discarded, WRITER_FAULT latched. -/
def State.haltWriter (s : State) : State :=
  (({ s with writer := { s.writer with state := .halted } }).endLockout).latch .writerFault

/-- Byte address of the word of a record that is `n` words past the head (R123, R132). -/
def recordAddr (cfg : Setup) (l : LogState) (n : Nat) : Nat := cfg.logAddr (l.head + n)

/-- A word of the record has been written: the next is asked for under the lockout, or the read-back; on
FAULT the writer halts (R132, R134). -/
def State.wordWritten (s : State) (l : LogState) (ws : List Word) (chain : Half) (n : Nat)
    (m : MemAnswer) : State :=
  let s1 := s.memWrite m (recordAddr s.cfg l n) (ws.getD n 0)
  if m.isOk then
    ({ s1 with writer := { s1.writer with
        state := if n + 1 < ws.length then .writing ws chain (n + 1) else .verifying ws chain
      } }).askWriter
  else s1.haltWriter

/-- The front entry leaves the queue; the LOSS record of a pending loss takes the freed place (R120,
R133). -/
def State.removeFront (s : State) : State :=
  match s.queue.loss with
  | none => { s with queue := { s.queue with entries := s.queue.entries.tail } }
  | some p =>
    let loss : QEntry := { time := s.now, slot := none, body := .loss p.count p.first p.last }
    { s with queue := { entries := loss :: s.queue.entries.tail, loss := none } }

/-- The recorded-through mark at the removal of the front entry (R108): an entry behind a LOSS record
keeps its place, else it moves up by one. -/
def Receipt.afterRemoval (r : Receipt) (lossAhead : Bool) : Receipt :=
  match r.mark with
  | none => r
  | some k =>
    if k.index = 0 then { r with recordedThrough := some k.seq, mark := none }
    else if lossAhead then r
    else { r with mark := some { index := k.index - 1, seq := k.seq } }

/-- An entry opened by a verified OPENED record receives its sequence (R17). -/
def Entry.withRecordSeq (e : Entry) (seq : Word) : Entry :=
  match e with
  | .free => .free
  | .staged c d => .staged c d
  | .tracked c t => .tracked c { t with opening := { t.opening with recordSeq := some seq } }
  | .closing c o t => .closing c (o.map (fun x => { x with recordSeq := some seq })) t

/-- What the verification of a record does to its account (R133 step 5; R17, R28). -/
def State.accountVerified (s : State) (e : QEntry) (seq : Word) : State :=
  match e.slot with
  | none => s
  | some slot =>
    match e.body with
    | .opened .. => s.setAccount slot ((s.account slot).withRecordSeq seq)
    | .closed .. => s.setAccount slot .free
    | _ => s

/-- The pointers after a record of `n` words has been verified (R133 steps 1 and 2). -/
def LogState.advance (l : LogState) (size n : Nat) : LogState :=
  { head := (l.head + n) % size, tail := l.tail, used := l.used + n, nextSeq := l.nextSeq + 1 }

/-- The commit of a verified record (R133). -/
def State.commit (s : State) (l : LogState) (ws : List Word) (chain : Half) : State :=
  match s.queue.entries with
  | [] => s
  | e :: _ =>
    let s1 := { s with writer := { s.writer with
      state := .idle, log := some (l.advance s.cfg.logSize ws.length), chain := chain } }
    let s2 := { s1.removeFront with receipt := s.receipt.afterRemoval s.queue.loss.isSome }
    (s2.accountVerified e l.nextSeq).endLockout.judgeNearFull

/-- The read-back has completed: a match commits, anything else halts (R133, R134). -/
def State.readBack (s : State) (l : LogState) (ws : List Word) (chain : Half) (m : MemAnswer) :
    State :=
  match s.memRead m (recordAddr s.cfg l (ws.length - 1)) with
  | some w => if w = ws.getLastD 0 then s.commit l ws chain else s.haltWriter
  | none => s.haltWriter

/-! ## Commands -/

/-- WRITER_TAKE_ENTRY (R131). Nothing happens unless the writer is IDLE in RUNNING with an entry waiting
(log 6). -/
def execWriterTakeEntry (s : State) : Host.Outcome State Fault Refusal :=
  .next (s.takeEntry.settlePorts s)

/-- SPACE_FOUND (R131). -/
def execSpaceFound (s : State) : Host.Outcome State Fault Refusal :=
  .next (s.findSpace.settlePorts s)

/-- WRITER_WORD_WRITE (R132). -/
def execWriterWordWrite (m : MemAnswer) (s : State) : Host.Outcome State Fault Refusal :=
  match s.arbiter.owner, s.writer.state, s.writer.log with
  | some .writer, .writing ws chain n, some l =>
    .next ((s.freePort.wordWritten l ws chain n m).settlePorts s)
  | _, _, _ => .next s

/-- TRAILER_READ_BACK (R133). -/
def execTrailerReadBack (m : MemAnswer) (s : State) : Host.Outcome State Fault Refusal :=
  match s.arbiter.owner, s.writer.state, s.writer.log with
  | some .writer, .verifying ws chain, some l =>
    .next ((s.freePort.readBack l ws chain m).settlePorts s)
  | _, _, _ => .next s

end Sys2Proof.Machine
end

