-- ==== Sys2Proof/Machine/Supply.lean ====
section
/-! DEFINITION. Supplies, power return, cold start and the reset line (chapter 10, R195 to R206). -/

namespace Sys2Proof.Machine

/-! ## Supply loss -/

/-- A write of a host access abandoned at the memory port (R143). -/
def State.abandonJob (s : State) (a : HostAccess) (job : HostJob) : State :=
  match job with
  | .read => s
  | .write => s.memAbandon a.wordAddr a.data
  | .windowWrite _ => s.memAbandon a.wordAddr a.data
  | .rmwRead => s
  | .rmwWrite merged => s.memAbandon a.wordAddr merged
  | .suppressed _ => s

/-- The log writer's access abandoned at the memory port (R137, log 4). -/
def State.abandonWriter (s : State) : State :=
  match s.writer.state, s.writer.log with
  | .writing ws _ n, some l => s.memAbandon (recordAddr s.cfg l n) (ws.getD n 0)
  | _, _ => s

/-- The status updater's write abandoned at the memory port (R182, log 4). -/
def State.abandonStatus (s : State) : State :=
  match s.status.rewrite with
  | some (.writing picture n) =>
    s.memAbandon (statusAddr s.cfg (statusOrder n)) (picture.getD (statusOrder n) 0)
  | _ => s

/-- The memory access in progress is abandoned (R144, R196). -/
def State.abandonAccess (s : State) : State :=
  match s.arbiter.owner with
  | none => s
  | some .upstream =>
    match s.upstreamJob with
    | some (a, job) => s.abandonJob a job
    | none => s
  | some .writer => s.abandonWriter
  | some (.reader _) => s
  | some .status => s.abandonStatus

/-- With both supplies absent the backup domain is lost: mark cleared, clock stopped, line undriven
(R197, log 17). -/
def State.loseDomain (s : State) : State :=
  if s.supply.domainHeld then
    { s with
      supply := { s.supply with domainHeld := false }
      alert := { s.alert with line := Config.freeBit s.free }
      free := s.free + 1 }
  else s

/-- The upstream port becomes inactive: the access carried and the accesses behind it are abandoned
without an answer (R143, R196, log 28). -/
def State.dropPort (s : State) : State :=
  { s with port := { s.port with current := none, behind := [] } }

/-- The last power-loss interval at a loss of main supply: a loss during the stable wait leaves it as it
stands (R196, R203). -/
def State.lossInterval (s : State) : Option PowerLoss :=
  if s.supply.stableWait then s.supply.powerLoss else some { loss := s.now, ret := none }

/-- A main supply loss that leaves the last power-loss interval as given (R196). -/
def State.loseMainWith (s : State) (interval : Option PowerLoss) (backupRestored : Bool) : State :=
  let s1 := s.abandonAccess.dropPort.clearTransients
  let s2 : State := { s1 with supply := { s1.supply with
    part := .retain, mainPresent := false, stableWait := false, resetTime := none,
    backupPresent := s1.supply.backupPresent || backupRestored, powerLoss := interval } }
  if s2.supply.backupPresent then s2 else s2.loseDomain

/-- A main supply loss (R196). -/
def State.loseMain (s : State) (backupRestored : Bool) : State :=
  s.loseMainWith s.lossInterval backupRestored

/-- MAIN_SUPPLY_LOSS (R196). With main supply absent already nothing happens (log 6). -/
def execMainSupplyLoss (backupRestored : Bool) (s : State) : Host.Outcome State Fault Refusal :=
  if s.supply.mainPresent then .next ((s.loseMain backupRestored).settle s) else .next s

/-- A backup supply loss: the domain is lost only while main supply is absent (R197). -/
def State.loseBackup (s : State) : State :=
  let s1 := { s with supply := { s.supply with backupPresent := false } }
  if s1.supply.mainPresent then s1 else s1.loseDomain

/-- BACKUP_SUPPLY_LOSS (R197). -/
def execBackupSupplyLoss (s : State) : Host.Outcome State Fault Refusal :=
  .next (s.loseBackup.settle s)

/-! ## Supply return -/

/-- MAIN_SUPPLY_RETURN (R200): the stable wait starts. -/
def execMainSupplyReturn (s : State) : Host.Outcome State Fault Refusal :=
  if s.supply.part = .retain ∧ s.supply.mainPresent = false then
    .next (({ s with supply := { s.supply with mainPresent := true, stableWait := true } }).settle s)
  else .next s

/-- Is the retained domain usable (R199)? `intact` says that retained memory holds what the last
operation left (log 15). -/
def State.usable (s : State) (intact : Bool) : Bool :=
  s.supply.domainHeld && s.supply.retainedValid && intact
    && s.supply.retainedCheck == s.retainedCheckNow

/-- The return time of the last power-loss interval (R201 step 2). -/
def State.noteReturn (s : State) : State :=
  { s with supply := { s.supply with
      powerLoss := s.supply.powerLoss.map (fun p => { loss := p.loss, ret := some s.now }) } }

/-- The POWER record of the last power-loss interval (R201 step 3). -/
def powerRecord (t : Nat) (p : Option PowerLoss) : QEntry :=
  { time := t, slot := none, body := .power ((p.map PowerLoss.loss).getD t) t }

/-- The POWER record is queued (R201 step 3). -/
def State.queuePower (s : State) : State := s.produce (powerRecord s.now s.supply.powerLoss)

/-- The part is RUNNING after a restart, in the order of R201 step 6 and R204 step 3: the held access is
judged, with those behind it while the port carries none, the full rewrite begins, and the writer takes its
front entry (the order of acting: log 37). -/
def State.runningAgain (s : State) : State := (s.enter .running).pump.fullRewrite.takeEntry

/-- A power return up to a point, its operations whole (R201 steps 1 to 5, R203). -/
def State.returnUpTo (s : State) (p : ReturnPoint) : State :=
  match p with
  | .cleared => s.restartValues
  | .noted => s.restartValues.noteReturn
  | .deadlines n => takeFallen n s.restartValues.noteReturn.queuePower
  | .restartLatched => s.restartValues.noteReturn.queuePower.takeAllFallen.latch .restart

/-- The power return proper (R201). -/
def State.powerReturn (s : State) : State := (s.returnUpTo .restartLatched).runningAgain

/-- The last power-loss interval at a loss during a power return: before step 2 it stands as it did, after
it the loss is a new one (R203). -/
def State.intervalAt (s : State) (p : ReturnPoint) : Option PowerLoss :=
  match p with
  | .cleared => s.supply.powerLoss
  | .noted => some { loss := s.now, ret := none }
  | .deadlines _ => some { loss := s.now, ret := none }
  | .restartLatched => some { loss := s.now, ret := none }

/-- A power return that a main supply loss ends at a point (R203, log 33). -/
def State.brokenReturn (s : State) (l : ReturnLoss) : State :=
  (s.returnUpTo l.point).loseMainWith (s.intervalAt l.point) l.backupRestored

/-- The power return of a usable retained domain, whole or ended by a loss (R201, R203). -/
def State.returnOrLose (s : State) (loss : Option ReturnLoss) : State :=
  match loss with
  | none => s.powerReturn
  | some l => s.brokenReturn l

/-- The outcome of an unusable retained domain (R199). -/
def State.unusableOutcome (s : State) : ColdOutcome := if s.supply.domainHeld then .lost else .none

/-- The stable wait is over, and what reaches the part in the STARTING that follows stands at its ports: the
accesses that arrive wait, none being judged before STARTING ends (R142, R143, R201), and the reset input may
be asserted (R203, log 33). -/
def State.startFromWait (s : State) (w : WaitEnd) : State :=
  { s with
    supply := { s.supply with
      stableWait := false, resetPin := s.supply.resetPin || w.asserted }
    port := { s.port with behind := s.port.behind ++ w.arriving } }

/-- The stable wait completes and the retained domain is judged (R200). -/
def State.completeWait (s : State) (w : WaitEnd) : State :=
  if s.usable w.intact then (s.startFromWait w).returnOrLose w.loss
  else (s.startFromWait w).coldStart s.unusableOutcome

/-! ## Reset line -/

/-- A host access taken by the filter completes whole with memory's answers to what it still does: a
read-modify-write runs to its write (R143, R204). -/
def State.finishWhole (s : State) (a : HostAccess) (job : HostJob) (first second : MemAnswer) : State :=
  let s1 := s.finishJob a job first
  match job, s1.port.current with
  | .rmwRead, some { acc := _, phase := .atMemory (.rmwWrite merged) } =>
    s1.finishRmwWrite a merged second
  | _, _ => s1

/-- A host access taken by the filter that still waits for its grant completes whole (R143). -/
def State.finishTaken (s : State) (first second : MemAnswer) : State :=
  match s.port.current with
  | some { acc := a, phase := .atMemory job } => s.finishWhole a job first second
  | _ => s

/-- The log writer's current memory access completes; the record is abandoned whatever its outcome (R137,
R204, log 20). -/
def State.endWriterAccess (s : State) (m : MemAnswer) : State :=
  match s.writer.state, s.writer.log with
  | .writing ws _ n, some l => s.memWrite m (recordAddr s.cfg l n) (ws.getD n 0)
  | _, _ => s

/-- The status write in progress completes; a FAULT latches WRITER_FAULT (R181, R182, R204). -/
def State.endStatusAccess (s : State) (m : MemAnswer) : State :=
  match s.status.rewrite with
  | some (.writing picture n) =>
    (s.memWrite m (statusAddr s.cfg (statusOrder n)) (picture.getD (statusOrder n) 0)).latchIf
      (!m.isOk) .writerFault
  | _ => s

/-- Work in progress is brought to an end (R204): the memory access in progress with its answer, then a
host access still to be performed with the other answers. A read by the internal reader is discarded. -/
def State.endWork (s : State) (r : ResetAnswers) : State :=
  match s.arbiter.owner with
  | none => s.freePort.finishTaken r.hostFirst r.hostSecond
  | some .upstream => s.freePort.finishTaken r.inProgress r.hostFirst
  | some .writer => (s.endWriterAccess r.inProgress).freePort.finishTaken r.hostFirst r.hostSecond
  | some (.reader _) => s.freePort.finishTaken r.hostFirst r.hostSecond
  | some .status => (s.endStatusAccess r.inProgress).freePort.finishTaken r.hostFirst r.hostSecond

/-- Part states in which an assertion of the reset input acts at once (R204). -/
def PartState.takesReset : PartState → Bool
  | .starting _ => false
  | .opened => true
  | .scanning => true
  | .running => true
  | .retain => false

/-- The reset line acts: work in progress is brought to an end, then the transient state takes its restart
values (R204). -/
def State.actReset (s : State) (r : ResetAnswers) : State := (s.endWork r).beginReset

/-- A reset assertion held through STARTING acts on the state entered, once STARTING has ended whole
(R203, R205, log 19). -/
def State.heldReset (s : State) (r : ResetAnswers) : State :=
  if s.supply.resetPin && s.supply.part.takesReset then (s.actReset r).settlePorts s else s

/-- STABLE_WAIT_COMPLETE (R200). -/
def execStableWaitComplete (w : WaitEnd) (s : State) : Host.Outcome State Fault Refusal :=
  if s.supply.part = .retain ∧ s.supply.stableWait = true then
    .next (((s.completeWait w).settlePorts s).heldReset w.held)
  else .next s

/-- The reset input is asserted. -/
def State.assertPin (s : State) : State := { s with supply := { s.supply with resetPin := true } }

/-- The reset input is asserted: in OPEN, SCANNING and RUNNING it acts, in STARTING it waits (R204, R205).
In RETAIN it is not taken (R196); the level of the input is kept, and an input still asserted when the
STARTING that follows ends acts then (DESIGN CHOICE, log 36). -/
def State.assertReset (s : State) (r : ResetAnswers) : State :=
  if s.supply.part.takesReset then (s.actReset r).assertPin else s.assertPin

/-- RESET_ASSERT (R204). An input already asserted is not asserted again (log 6). -/
def execResetAssert (inProgress hostFirst hostSecond : MemAnswer) (s : State) :
    Host.Outcome State Fault Refusal :=
  if s.supply.resetPin then .next s
  else .next ((s.assertReset
    { inProgress := inProgress, hostFirst := hostFirst, hostSecond := hostSecond }).settlePorts s)

/-- The RESET record (R204 step 1). -/
def resetRecord (t assertion : Nat) : QEntry := { time := t, slot := none, body := .reset assertion }

/-- The restart at a release with the retained valid flag set (R204). -/
def State.resetReturn (s : State) : State :=
  let s1 := (s.produce (resetRecord s.now (s.supply.resetTime.getD s.now))).latch .restart
  ({ s1 with supply := { s1.supply with resetTime := none } }).runningAgain

/-- The reset input is released: the restart ends, or the cold-start path runs again (R204, R205). -/
def State.releaseReset (s : State) : State :=
  let s1 := { s with supply := { s.supply with resetPin := false } }
  if s.supply.part = .starting .resetLine then
    if s.supply.retainedValid then s1.resetReturn
    else ({ s1 with supply := { s1.supply with resetTime := none } }).rerun
  else s1

/-- RESET_RELEASE (R204). An input not asserted is not released (log 6). -/
def execResetRelease (s : State) : Host.Outcome State Fault Refusal :=
  if s.supply.resetPin then .next (s.releaseReset.settlePorts s) else .next s

end Sys2Proof.Machine
end

