-- ==== Sys2Proof/Machine/SetupLoad.lean ====
section
/-! DEFINITION. The setup loader (chapter 08): validation, acceptance, relocation, rejection. -/

namespace Sys2Proof.Machine

/-! ## Validation -/

/-- MARKER (R163). -/
def Setup.markerOk (c : Setup) : Bool := c.word 0 == 0x5E480001#32

/-- CHECK (R165). -/
def Setup.checkOk (c : Setup) : Bool := c.word 63 == 0#16 ++ spanCheck (c.words.take 63)

/-- CAPACITY (R163). -/
def Setup.capacityOk (c : Setup) : Bool := 1 ≤ c.capacity && c.capacity ≤ 16

/-- Two spans of bytes share none. -/
def disjointSpans (base1 size1 base2 size2 : Nat) : Bool :=
  base1 + size1 ≤ base2 || base2 + size2 ≤ base1

/-- REGION (R170). -/
def Setup.regionOk (c : Setup) : Bool :=
  c.statusBase % 4 == 0 && c.windowBase % 4 == 0 && c.logBase % 4 == 0
    && 4096 ≤ c.logSize
    && c.statusBase + 192 ≤ c.capacityBytes && c.windowBase + 128 ≤ c.capacityBytes
    && c.logBase + 4 * c.logSize ≤ c.capacityBytes
    && disjointSpans c.statusBase 192 c.windowBase 128
    && disjointSpans c.statusBase 192 c.logBase (4 * c.logSize)
    && disjointSpans c.windowBase 128 c.logBase (4 * c.logSize)
    && disjointSpans 0 256 c.statusBase 192 && disjointSpans 0 256 c.windowBase 128
    && disjointSpans 0 256 c.logBase (4 * c.logSize)
    && c.nearFull ≤ c.logSize

/-- A number lies in a range. -/
def within (lo hi n : Nat) : Bool := lo ≤ n && n ≤ hi

/-- TIMING (R163, R169). -/
def Setup.timingOk (c : Setup) : Bool :=
  within 1 4 c.count && within 10 600 c.period && 1 ≤ c.window && 4 * c.window ≤ c.period
    && within 60 3600 c.gapLimit && c.period + c.window < c.gapLimit && within 60 7200 c.stagingLimit
    && within 5 50 c.tolerance && within 2 15 c.doubtCount
    && within 30 3600 c.stopGrace && within 0 600 c.awayGrace
    && within 60 3600 c.defrostGrace && within 0 1800 c.recovery

/-- The ranges and ordering of an enabled class (R164). -/
def Band.rangesOk (b : Band) : Bool :=
  -500 ≤ b.hardLow && b.hardLow ≤ b.low && b.low ≤ b.high && b.high ≤ b.hardHigh && b.hardHigh ≤ 700
    && within 60 86400 b.timeLimit

/-- BAND (R164, R169). -/
def Setup.bandOk (c : Setup) : Bool :=
  (List.range 8).all (fun k => !(c.band k).enabled || (c.band k).rangesOk)
    && (List.range 8).any (fun k => (c.band k).enabled)

/-- The bits of a setup word that R217 gives to a field; word 63 is judged under CHECK. -/
def fieldBits (i : Nat) : Word :=
  if i = 0 then 0xFFFFFFFF#32
  else if i = 1 then 0x0000001F#32
  else if i ≤ 4 then 0x00FFFFFF#32
  else if i ≤ 6 then 0x007FFFFF#32
  else if i = 7 then 0x00000F07#32
  else if i ≤ 9 then 0xFFFFFFFF#32
  else if i = 10 then 0x0000FFFF#32
  else if i ≤ 12 then 0xFFFFFFFF#32
  else if i = 13 then 0x00001FFF#32
  else if i < 16 then 0#32
  else if i < 56 then (if (i - 16) % 5 = 4 then 0x8001FFFF#32 else 0xFFFFFFFF#32)
  else if i < 63 then 0#32
  else 0xFFFFFFFF#32

/-- RESERVED (R165, R217): no bit outside the fields, no B-fitted mark at or beyond the count. -/
def Setup.reservedOk (c : Setup) : Bool :=
  (List.range 64).all (fun i => c.word i &&& ~~~ fieldBits i == 0)
    && (List.range 4).all (fun k => k < c.count || !c.bFitted k)

/-- Do two blocks place the log alike (R171, R173)? -/
def sameLog (c d : Setup) : Bool := c.logBase == d.logBase && c.logSize == d.logSize

/-- Used words, 0 while the pointers are not set (R122). -/
def State.usedWords (s : State) : Nat :=
  match s.writer.log with
  | some l => l.used
  | none => 0

/-- LOG_IN_USE (R171). -/
def State.logFreeFor (s : State) (c : Setup) : Bool :=
  match s.setup.inForce with
  | none => true
  | some d => sameLog c d || (s.usedWords == 0 && s.queue.entries.isEmpty)

/-- The first reason whose test fails, in the order of R169; MEMORY_FAULT is decided at the read. -/
def State.validate (s : State) (c : Setup) : Option SetupReject :=
  if !c.markerOk then some .marker
  else if !c.checkOk then some .check
  else if !c.capacityOk then some .capacity
  else if !c.regionOk then some .region
  else if !c.timingOk then some .timing
  else if !c.bandOk then some .band
  else if !c.reservedOk then some .reserved
  else if !s.logFreeFor c then some .logInUse
  else none

/-! ## Decisions -/

/-- The copy becomes the setup in force and the load ends (R172 steps 1 and 8, R174). -/
def State.putInForce (s : State) (c : Setup) : State :=
  { s with
    setup := { s.setup with inForce := some c, lastResult := .accepted, load := none }
    compartments := coldCompartments c }

/-- The log writer takes the new log (R172 step 3): a relocation empties it and starts the chain anew,
keeping the next record sequence (R173). -/
def State.relocate (s : State) : State :=
  { s with writer := { s.writer with
      log := s.writer.log.map (fun l => { head := 0, tail := 0, used := 0, nextSeq := l.nextSeq })
      chain := checkStart } }

/-- The SETUP record of the setup in force (R172 step 7). -/
def setupRecord (t : Nat) (c : Setup) (relocated : Bool) : QEntry :=
  { time := t, slot := none, body := .setup c.checkValue c.logBase c.logSize relocated }

/-- Does the acceptance of a block relocate the log (R173)? -/
def State.relocates (s : State) (c : Setup) : Bool :=
  match s.setup.inForce with
  | none => false
  | some d => !sameLog c d

/-- Acceptance of a load started from RUNNING (R172). -/
def State.acceptRunning (s : State) (c : Setup) : State :=
  let s1 := s.putInForce c
  let s2 := if s.relocates c then s1.relocate else s1
  let s3 := { s2 with cadence := s2.cadence.afterSetup }
  let s4 := (s3.refuseAssembly .notReady).judgeNearFull
  (s4.produce (setupRecord s.now c (s.relocates c))).fullRewrite

/-- Acceptance of the cold-start load or of a load started from OPEN (R174, R206): in SCANNING the held
access is judged, and then the first picture is asked for (log 37). The log scan starts behind it
(`State.startScanIfDue`). -/
def State.acceptCold (s : State) (c : Setup) : State :=
  let s1 := s.putInForce c
  let s2 : State := { s1 with
    cadence := Cadence.fresh
    setup := { s1.setup with heldRecord := true }
    supply := { s1.supply with part := .scanning } }
  s2.pump.fullRewrite

/-- Rejection (R175): a cold-start load leads to OPEN. -/
def State.rejectLoad (s : State) (reason : SetupReject) : State :=
  let s1 := { s with setup := { s.setup with lastResult := .rejected reason, load := none } }
  let s2 := if s.supply.part.isStarting then s1.enter .opened else s1
  s2.latch .setupRejected

/-- Is the part on the cold-start load? -/
def State.coldLoading (s : State) : Bool := s.supply.part.isStarting

/-- The decision on a load (R169, R172, R174, R175). -/
def State.decideLoad (s : State) (reason : Option SetupReject) (c : Setup) : State :=
  match reason with
  | some r => s.rejectLoad r
  | none => if s.supply.part = .running then s.acceptRunning c else s.acceptCold c

/-- A read of the load has returned (R167): the next is asked for, or the block is judged. -/
def State.loadWord (s : State) (copy : List Word) (word : Option Word) : State :=
  match word with
  | none => s.decideLoad (some .memoryFault) { words := copy }
  | some w =>
    let ws := copy ++ [w]
    if ws.length < 64 then
      ({ s with setup := { s.setup with load := some ws } }).askReader .setupLoader
    else s.decideLoad (s.validate { words := ws }) { words := ws }

/-- SETUP_LOAD_READ (R167). A decision of the cold-start load ends STARTING (R206), and a held reset
assertion then acts (R205). -/
def execSetupLoadRead (r : LoadRead) (s : State) : Host.Outcome State Fault Refusal :=
  match s.arbiter.owner, s.setup.load with
  | some (.reader .setupLoader), some copy =>
    let s1 := (s.freePort.loadWord copy (s.memRead r.answer (4 * copy.length))).settlePorts s
    .next (if s.coldLoading then s1.heldReset r.held else s1)
  | _, _ => .next s

end Sys2Proof.Machine
end

