-- ==== Sys2Proof/Machine/Scan.lean ====
section
/-! DEFINITION. The log scanner (chapter 10, R208, R209). -/

namespace Sys2Proof.Machine

/-- A word is a candidate first word (R208). -/
def isCandidate (w : Word) : Bool := hasMarker w && markedLength w ≤ 20

/-- Words of the candidate whose first word is `w`, with the words after its body (R208). -/
def candidateLength (w : Word) : Nat := markedLength w + 4

/-- The words of a candidate form a valid record (R208). -/
def validRecord (ws : List Word) : Bool :=
  let covered := ws.dropLast
  (ws.getLastD 0).extractLsb' 16 16 == spanCheck covered
    && sequenceTag (ws.getD 0 0) == (ws.getD 1 0).extractLsb' 0 15

/-- What the scanner notes of a valid record (R208). -/
def noteOf (position : Nat) (ws : List Word) : Found :=
  { position := position, seq := ws.getD 1 0, length := ws.length,
    chain := (ws.getLastD 0).extractLsb' 0 16 }

/-- The record with the higher sequence, the first found of equals (R209). -/
def higher (old : Option Found) (f : Found) : Found :=
  match old with
  | none => f
  | some g => if g.seq.toNat < f.seq.toNat then f else g

/-- The record with the lower sequence, the first found of equals (R209). -/
def lower (old : Option Found) (f : Found) : Found :=
  match old with
  | none => f
  | some g => if f.seq.toNat < g.seq.toNat then f else g

/-- A valid record is noted and counted, and the scan goes on past it (R208). -/
def Scanner.note (c : Scanner) (ws : List Word) : Scanner :=
  let f := noteOf c.position ws
  { position := c.position + ws.length, words := [], spoiled := false,
    highest := some (higher c.highest f), lowest := some (lower c.lowest f), count := c.count + 1 }

/-- The scan goes on at the next position (R208). -/
def Scanner.skip (c : Scanner) : Scanner :=
  { c with position := c.position + 1, words := [], spoiled := false }

/-- The words of the candidate are all read: it is valid or not (R208). -/
def Scanner.judge (c : Scanner) (ws : List Word) (spoiled : Bool) : Scanner :=
  if !spoiled && validRecord ws then c.note ws else c.skip

/-- One scan read has completed (R208). A FAULT is a word without the marker; within a candidate it makes
the candidate invalid, whose remaining words are read all the same (log 24). -/
def Scanner.take (c : Scanner) (word : Option Word) : Scanner :=
  match c.words with
  | [] =>
    match word with
    | none => c.skip
    | some w => if isCandidate w then { c with words := [w], spoiled := false } else c.skip
  | first :: rest =>
    let ws := first :: rest ++ [word.getD 0]
    let spoiled := c.spoiled || word.isNone
    if ws.length < candidateLength first then { c with words := ws, spoiled := spoiled }
    else c.judge ws spoiled

/-- The pointers the scan gives (R209). -/
def Scanner.log (c : Scanner) (size : Nat) : LogState :=
  match c.highest, c.lowest with
  | some h, some l =>
    let head := (h.position + h.length) % size
    { head := head, tail := l.position
      used := if head = l.position then size else (head + size - l.position) % size
      nextSeq := h.seq + 1 }
  | _, _ => { head := 0, tail := 0, used := 0, nextSeq := 1 }

/-- The COLD_START record (R209 step 1). -/
def coldStartRecord (t : Nat) (c : Scanner) (outcome : ColdOutcome) : QEntry :=
  { time := t, slot := none
    body := .coldStart (c.highest.map (fun h => (h.seq, h.chain))) c.count outcome }

/-- The SETUP record that the loader held is queued with relocated no (R174, R209 step 2). -/
def State.queueHeld (s : State) : State :=
  if s.setup.heldRecord then
    ({ s with setup := { s.setup with heldRecord := false } }).produce (setupRecord s.now s.cfg false)
  else s

/-- The end of the scan (R209). -/
def State.endScan (s : State) (c : Scanner) : State :=
  let s1 : State := { s with
    scanner := none
    writer := { s.writer with log := some (c.log s.cfg.logSize), chain := checkStart } }
  let s2 := s1.produce (coldStartRecord s.now c (s.supply.coldOutcome.getD .none))
  let s3 := s2.queueHeld.judgeNearFull.latch .restart
  { s3 with supply := { s3.supply with retainedValid := true, part := .running, coldOutcome := none } }

/-- Position of the word the scanner reads next (R208). -/
def Scanner.next (c : Scanner) : Nat := c.position + c.words.length

/-- The scan after a read: at its end, or with the next read asked for (R208). -/
def State.scanWord (s : State) (c : Scanner) (word : Option Word) : State :=
  let c1 := c.take word
  if s.cfg.logSize ≤ c1.position then s.endScan c1
  else ({ s with scanner := some c1 }).askReader .logScanner

/-- LOG_SCAN_READ (R208). -/
def execLogScanRead (m : MemAnswer) (s : State) : Host.Outcome State Fault Refusal :=
  match s.arbiter.owner, s.scanner with
  | some (.reader .logScanner), some c =>
    .next ((s.freePort.scanWord c (s.memRead m (s.cfg.logAddr c.next))).settlePorts s)
  | _, _ => .next s

end Sys2Proof.Machine
end

