-- ==== Sys2Proof/Machine/Dispatch.lean ====
section
/-! DEFINITION. One arm per command: its meaning. -/

namespace Sys2Proof.Machine

def exec (i : Instr) (s : State) : Host.Outcome State Fault Refusal :=
  match i with
  | .hostAccess acc => Sys2Proof.Machine.execHostAccess acc s
  | .passThroughRead m => Sys2Proof.Machine.execPassThroughRead m s
  | .passThroughWrite m => Sys2Proof.Machine.execPassThroughWrite m s
  | .rmwReadDone m => Sys2Proof.Machine.execRmwReadDone m s
  | .rmwWriteDone m => Sys2Proof.Machine.execRmwWriteDone m s
  | .suppressedWrite m => Sys2Proof.Machine.execSuppressedWrite m s
  | .reportWindowWrite m => Sys2Proof.Machine.execReportWindowWrite m s
  | .narrowWindowWrite offset width data => Sys2Proof.Machine.execNarrowWindowWrite offset width data s
  | .timedOut => Sys2Proof.Machine.execTimedOut s
  | .reading seq rsv body => Sys2Proof.Machine.execReading seq rsv body s
  | .load seq rsv reference placement => Sys2Proof.Machine.execLoad seq rsv reference placement s
  | .move seq rsv reference target => Sys2Proof.Machine.execMove seq rsv reference target s
  | .withdraw seq rsv reference => Sys2Proof.Machine.execWithdraw seq rsv reference s
  | .handover seq rsv reference receiver => Sys2Proof.Machine.execHandover seq rsv reference receiver s
  | .arrive seq rsv stopNumber bodyRsv => Sys2Proof.Machine.execArrive seq rsv stopNumber bodyRsv s
  | .depart seq rsv stopNumber bodyRsv => Sys2Proof.Machine.execDepart seq rsv stopNumber bodyRsv s
  | .exported seq rsv lastSeq newTail => Sys2Proof.Machine.execExported seq rsv lastSeq newTail s
  | .exportCheckRead m => Sys2Proof.Machine.execExportCheckRead m s
  | .time seq rsv calendarHigh calendarLow => Sys2Proof.Machine.execTime seq rsv calendarHigh calendarLow s
  | .query seq rsv reference => Sys2Proof.Machine.execQuery seq rsv reference s
  | .acknowledge data => Sys2Proof.Machine.execAcknowledge data s
  | .clearCounters causes => Sys2Proof.Machine.execClearCounters causes s
  | .loadTrigger => Sys2Proof.Machine.execLoadTrigger s
  | .setupLoadRead r => Sys2Proof.Machine.execSetupLoadRead r s
  | .writerTakeEntry => Sys2Proof.Machine.execWriterTakeEntry s
  | .spaceFound => Sys2Proof.Machine.execSpaceFound s
  | .writerWordWrite m => Sys2Proof.Machine.execWriterWordWrite m s
  | .trailerReadBack m => Sys2Proof.Machine.execTrailerReadBack m s
  | .statusRewrite => Sys2Proof.Machine.execStatusRewrite s
  | .statusWordWrite m => Sys2Proof.Machine.execStatusWordWrite m s
  | .stagingDeadline slot => Sys2Proof.Machine.execStagingDeadline slot s
  | .gapDeadline slot => Sys2Proof.Machine.execGapDeadline slot s
  | .graceExpiry compartment machine => Sys2Proof.Machine.execGraceExpiry compartment machine s
  | .recoveryExpiry compartment machine => Sys2Proof.Machine.execRecoveryExpiry compartment machine s
  | .expectedArrivalDeadline => Sys2Proof.Machine.execExpectedArrivalDeadline s
  | .mainSupplyLoss backupRestored => Sys2Proof.Machine.execMainSupplyLoss backupRestored s
  | .backupSupplyLoss => Sys2Proof.Machine.execBackupSupplyLoss s
  | .mainSupplyReturn => Sys2Proof.Machine.execMainSupplyReturn s
  | .stableWaitComplete w => Sys2Proof.Machine.execStableWaitComplete w s
  | .resetAssert inProgress hostFirst hostSecond => Sys2Proof.Machine.execResetAssert inProgress hostFirst hostSecond s
  | .resetRelease => Sys2Proof.Machine.execResetRelease s
  | .logScanRead m => Sys2Proof.Machine.execLogScanRead m s
  | .chillClockAdvance => Sys2Proof.Machine.execChillClockAdvance s

end Sys2Proof.Machine
end

