-- ==== Sys2Proof/Safety.lean ====
section
/-! DEFINITION. The invariants of a sound state, in the terms the claims use. -/

namespace Sys2Proof

open Machine

/-- The five counters lie within 0 to 65,535 (R189). -/
def Safety.countersBounded (c : Counters) : Prop :=
  c.refusedReports ≤ 65535 ∧ c.protectViolations ≤ 65535 ∧ c.accessErrors ≤ 65535 ∧
    c.missedReadings ≤ 65535 ∧ c.lostRecords ≤ 65535

/-- What every operation keeps: the canonical memory, the 48 account entries (R1), at most 16 records in
the queue (R116), the counters' range (R189), the clock's range (R193) and the fairness count's (R156). -/
structure Safety.Bounds (s : State) : Prop where
  memory : s.mem.wf = true
  table : s.accounts.length = 48
  queue : s.queue.entries.length ≤ 16
  counters : Safety.countersBounded s.alert.counters
  seconds : s.clock.seconds ≤ maxWord
  sub : s.clock.sub ≤ 63
  fairness : s.arbiter.fairness ≤ 8

/-- What the end of every operation leaves: the retained check covers the retained state (R198), and the
alert line, while its output stage is supplied, is asserted exactly while a latched cause is in the mask of
the setup in force (R186). -/
structure Safety.Settled (s : State) : Prop where
  check : s.supply.retainedCheck = s.retainedCheckNow
  line : s.supply.domainHeld = true → s.alert.line = s.lineLevel

/-- The invariant of every state between two commands. -/
structure Safety.Inv (s : State) : Prop where
  bounds : Safety.Bounds s
  settled : Safety.Settled s

/-- Rank of a verdict in the order CLEAN, UNPROVEN, BROKEN (R7). -/
def Safety.rank : Verdict → Nat
  | .clean => 0
  | .unproven _ => 1
  | .broken _ => 2

/-- A verdict keeps its value and cause, or moves upward (R7). -/
def Safety.upward (v w : Verdict) : Prop := w = v ∨ Safety.rank v < Safety.rank w

/-- A report handed over goes to its handler at once: the part is RUNNING, no setup load is in flight and
no report is in handling (R102, R104). -/
structure Safety.AtHandler (s : State) : Prop where
  running : s.supply.part = .running
  notLoading : s.setup.load = none
  notHandling : s.assembler.handling = none

/-- No entry aboard carries the reference (R3). -/
def Safety.notAboard (s : State) (reference : BitVec 64) : Prop :=
  ∀ e ∈ s.accounts, ∀ c, e.consignment = some c → c.reference ≠ reference

/-- The entry at a slot is the first one aboard that carries the reference (R3; no two do). -/
def Safety.aboardAt (s : State) (reference : BitVec 64) (slot : Nat) (e : Entry) : Prop :=
  s.accounts[slot]? = some e ∧ (∃ c, e.consignment = some c ∧ c.reference = reference) ∧
    ∀ j < slot, ∀ d, s.accounts[j]? = some d → ∀ c, d.consignment = some c → c.reference ≠ reference

/-- The slot holds the FREE entry with the lowest slot number (R4). -/
def Safety.lowestFreeAt (s : State) (slot : Nat) : Prop :=
  s.accounts[slot]? = some .free ∧ ∀ j < slot, s.accounts[j]? ≠ some .free

/-- The queue with records behind its newest entry (R117). -/
def Safety.queued (s : State) (records : List QEntry) : EvidenceQueue :=
  { s.queue with entries := s.queue.entries ++ records }

/-- The receipt of a taken report that queued `n` records, one or more: result TAKEN, and the
recorded-through mark on the newest of them (R107, R108). -/
def Safety.takenReceipt (s : State) (seq : Half) (n : Nat) : Receipt :=
  { s.receipt with
    latest := some (seq, .taken)
    mark := some { index := s.queue.entries.length + n - 1, seq := seq } }

/-- The receipt of a taken report that queued no record: with the queue empty the recorded-through
sequence becomes its sequence, otherwise the mark stands on the newest entry (R107, R108). -/
def Safety.takenNothingQueued (s : State) (seq : Half) : Receipt :=
  if s.queue.entries = [] then
    { latest := some (seq, .taken), recordedThrough := some seq, mark := none }
  else Safety.takenReceipt s seq 0

/-- A refused report changes its result in the receipt, the refused-reports counter and the REPORT_REFUSED
cause, and nothing else (R106, R107). -/
def Safety.refused (s : State) (seq : Half) (reason : ReportRefusal) : State :=
  { s with
    receipt := { s.receipt with latest := some (seq, .refused reason) }
    alert := { s.alert with
      latched := s.alert.latched ||| Cause.reportRefused.bit
      counters := { s.alert.counters with
        refusedReports := min (s.alert.counters.refusedReports + 1) 65535 } } }

/-- The alert cause set with a cause latched if a condition holds (R184). -/
def Safety.latchedIf (s : State) (b : Bool) (c : Cause) : BitVec 13 :=
  if b then s.alert.latched ||| c.bit else s.alert.latched

/-- The host access the port carries is at memory with its treatment (R142, R156). -/
structure Safety.AtMemory (s : State) (a : HostAccess) (job : HostJob) : Prop where
  owner : s.arbiter.owner = some .upstream
  carried : s.port.current = some { acc := a, phase := .atMemory job }

/-- The access filter's judgement of an access ends in `u`: at an idle port as the access arrives, and at a
port that carries none as an access that waited, whatever waits behind it, at the end of an operation and
where a rule judges it within one (R142, R145). -/
def Safety.judgedAs (s : State) (a : HostAccess) (u : State) : Prop :=
  exec (.hostAccess a) s = .next (State.settlePorts u s) ∧
    ∀ (rest : List HostAccess) (before : State),
      State.settlePorts { s with port := { s.port with behind := a :: rest } } before =
        State.settlePorts { u with port := { u.port with behind := rest } } before ∧
      State.pump { s with port := { s.port with behind := a :: rest } } =
        State.pump { u with port := { u.port with behind := rest } }

/-- The memory port is free again (R157). -/
def Safety.freed (s : State) : State := { s with arbiter := { s.arbiter with owner := none } }

/-- The word a write leaves by memory's answer (R144): the word given, what a memory that went wrong
unseen stored instead (log 2), or after FAULT a free value (log 3). -/
def Safety.wordLeft (s : State) (m : MemAnswer) (w : Word) : Word :=
  match m with
  | .ok => w
  | .corrupt x => x
  | .fault => Config.faultWord s.free

/-- A word write has completed at a word address: the word it leaves stands there, and no other byte of
memory changes (R144). -/
def Safety.written (s : State) (m : MemAnswer) (address : Nat) (w : Word) : State :=
  { s with
    mem := s.mem.writeWord address (Safety.wordLeft s m w)
    free := if m = .fault then s.free + 1 else s.free }

/-- The port has answered the access it carried (R142). -/
def Safety.answered (s : State) (a : HostAccess) (r : Response) : State :=
  { s with port := { s.port with
      current := none, answers := { acc := a, response := r } :: s.port.answers } }

/-- An access answered ERROR with an access error counted and the access kept (R153, R154, R155). -/
def Safety.rejected (s : State) (a : HostAccess) (reason : RejectReason) : State :=
  Safety.answered { s with
    alert := { s.alert with
      counters := { s.alert.counters with
        accessErrors := min (s.alert.counters.accessErrors + 1) 65535 } }
    rejected := some
      { addr := a.addr, width := a.width, dir := a.dir, reason := reason, time := s.clock.seconds } }
    a .error

/-- The access waits at memory for its grant with its treatment (R145, R157). -/
def Safety.waitsAtMemory (s : State) (a : HostAccess) (job : HostJob) : State :=
  { s with
    port := { s.port with current := some { acc := a, phase := .atMemory job } }
    arbiter := { s.arbiter with upstream := true } }

/-- A lockout of the memory port has ended (R158). -/
def Safety.unlocked (s : State) : State := { s with arbiter := { s.arbiter with lockout := none } }

/-- A setup load has been triggered (R150, R166): flag, read position 0, IN_FLIGHT, first read asked for. -/
def Safety.loadRaised (s : State) : State :=
  { s with
    setup := { s.setup with load := some [], lastResult := .inFlight }
    arbiter := { s.arbiter with reader := s.arbiter.reader ++ [.setupLoader] } }

/-- The reset line has acted, memory answering as given (R204): work in progress brought to an end, the
restart values of R201 step 1, STARTING with the assertion time. -/
def Safety.resetActed (s : State) (r : ResetAnswers) : State :=
  let u := (s.endWork r).restartValues
  { u with supply := { u.supply with
      part := .starting .resetLine, resetTime := some s.clock.seconds } }

/-- The word write in progress at the memory port, if there is one: its address and its word (R143, R144,
R156). -/
def Safety.writeInProgress (s : State) : Option (Nat × Word) :=
  match s.arbiter.owner with
  | none => none
  | some (.reader _) => none
  | some .upstream =>
    match s.port.current with
    | some { acc := a, phase := .atMemory .write } => some (a.addr.toNat / 4 * 4, a.data)
    | some { acc := a, phase := .atMemory (.windowWrite _) } => some (a.addr.toNat / 4 * 4, a.data)
    | some { acc := a, phase := .atMemory (.rmwWrite w) } => some (a.addr.toNat / 4 * 4, w)
    | _ => none
  | some .writer =>
    match s.writer.state, s.writer.log with
    | .writing record _ n, some l =>
      some (s.cfg.logBase + 4 * ((l.head + n) % s.cfg.logSize), record.getD n 0)
    | _, _ => none
  | some .status =>
    match s.status.rewrite with
    | some (.writing picture n) =>
      let word := if n = 46 then 47 else if n = 47 then 46 else n
      some (s.cfg.statusBase + 4 * word, picture.getD word 0)
    | _ => none

end Sys2Proof
end

