-- ==== Sys2Proof/Certificates/Slice0/Obligations.lean ====
section
/-! DEFINITION. The statements for the provers, one definition each, chapter by chapter of the spec. -/

open Sys2Proof Sys2Proof.Machine

/-! ## The step, the invariant, and the end of an operation -/

/-- A step runs the command at the front of the queue with the queue's rest; an empty queue idles. -/
def Obligations.StepRunsFrontCommand : Prop :=
  ∀ s : State,
    (∀ c rest, s.pending = c :: rest → step s = exec c { s with pending := rest }) ∧
    (s.pending = [] → step s = .next s)

/-- The invariant holds right after reset. -/
def Obligations.InvariantAtReset : Prop := Safety.Inv State.reset

/-- The cold-start path (R206, R166): the clearing step's every effect, the restart values of the transient
state, and the setup load triggered. Memory (log 1) and the lines stay as they were. No compartment record
stands, the setup in force being absent (R30; DEDUCED, log 21): the cold-start values are those of the
records that the acceptance brings. The state right after reset is what that path leaves, the first read of
its load granted (R157; the moment of reset is the model's choice, log 18). -/
def Obligations.ColdStartClears : Prop :=
  (∀ (s : State) (outcome : ColdOutcome),
     let t := s.coldStart outcome
     t.clock = { seconds := 0, sub := 0 } ∧ t.supply.part = .starting .coldLoad ∧
     t.supply.domainHeld = true ∧ t.supply.retainedValid = false ∧
     t.supply.coldOutcome = some outcome ∧ t.supply.powerLoss = none ∧
     t.accounts = List.replicate 48 .free ∧ t.queue = { entries := [], loss := none } ∧
     t.alert.counters = Counters.zero ∧ t.alert.latched = 0 ∧ t.alert.echo = none ∧
     t.alert.view = none ∧ t.stop = none ∧ t.compartments = [] ∧ t.status.gen = 0 ∧
     t.status.rewrite = none ∧ t.setup =
       { inForce := none, lastResult := .inFlight, load := some [], heldRecord := false } ∧
     t.writer = { state := .idle, log := none, chain := 0xFFFF#16, nearFull := false } ∧
     t.cadence = Cadence.fresh ∧ t.assembler.collecting = none ∧ t.assembler.waiting = none ∧
     t.assembler.handling = none ∧ t.receipt.latest = none ∧ t.receipt.mark = none ∧
     t.receipt.recordedThrough = none ∧ t.scanner = none ∧ t.rejected = none ∧
     t.arbiter.owner = none ∧ t.arbiter.lockout = none ∧ t.arbiter.reader = [.setupLoader] ∧
     t.mem = s.mem ∧ t.port = s.port ∧ t.pending = s.pending ∧
     t.supply.resetPin = s.supply.resetPin) ∧
  (let s := State.reset
   s.clock = { seconds := 0, sub := 0 } ∧ s.accounts = List.replicate 48 .free ∧ s.stop = none ∧
     s.queue = { entries := [], loss := none } ∧ s.supply.part = .starting .coldLoad ∧
     s.supply.retainedValid = false ∧ s.supply.domainHeld = true ∧ s.supply.powerLoss = none ∧
     s.writer = { state := .idle, log := none, chain := 0xFFFF#16, nearFull := false } ∧
     s.setup = { inForce := none, lastResult := .inFlight, load := some [], heldRecord := false } ∧
     s.arbiter.owner = some (.reader .setupLoader) ∧ s.cadence.state = .acquire ∧
     s.alert.latched = 0 ∧ s.alert.counters = Counters.zero ∧ s.status.gen = 0 ∧ s.rejected = none)

/-- Every step keeps the invariant, whatever the command. -/
def Obligations.InvariantKept : Prop :=
  ∀ s t : State, Safety.Inv s → step s = .next t → Safety.Inv t

/-- While an account stays aboard no command moves its verdict downward or changes the cause of a verdict
that stays (R7), and none changes its reference. -/
def Obligations.VerdictOnlyRises : Prop :=
  ∀ (i : Instr) (s t : State) (slot : Nat) (e f : Entry) (c d : Consignment),
    exec i s = .next t → s.accounts[slot]? = some e → t.accounts[slot]? = some f →
    e.consignment = some c → f.consignment = some d →
    d.reference = c.reference ∧ Safety.upward c.verdict d.verdict

/-- No command ends in a fault or a refusal: every one answers next in every state. That a command whose
event cannot occur in the state answers next too is the model's choice (DESIGN CHOICE, log 6). -/
def Obligations.EveryCommandCompletes : Prop :=
  ∀ (i : Instr) (s : State), ∃ t, exec i s = .next t

/-- The end of an operation that leaves `t` from `s`: a changed status field raises a demand (R179), the alert
line follows the latched causes in the mask while its stage is supplied (R186, R197), and the retained check
covers the retained state (R198). Nothing else changes. While the stage has no supply the line is left as it
is (the model's choice, log 17). The end of an operation that may have freed a port (R142, R157): the
upstream port goes on, a changed status field raises a demand, the memory port is granted, and the operation
settles; that the requests made within one step arrive together and are granted at its end is DEDUCED (log
39). The upstream port goes on so, at the end of an operation and where a rule judges a held access within
one (R201 step 6, R204 step 3, R206): a port that carries nothing with nothing waiting, that carries an
access at memory, or that holds an access whose hold stands (STARTING, or a window write while a report
waits, R103) stays as it is; a held access whose hold has ended is judged as newly arrived, before those
behind it. -/
def Obligations.EndOfOperation : Prop :=
  (∀ t s : State, State.settle t s =
     { t with
       status := { t.status with demand := t.status.demand || decide (s.shown ≠ t.shown) }
       alert := { t.alert with
         line := if t.supply.domainHeld then
             (match t.setup.inForce with
               | some c => decide (t.alert.latched &&& c.mask ≠ 0)
               | none => false)
           else t.alert.line }
       supply := { t.supply with retainedCheck := spanCheck (Config.retainedWords t.retained) } }) ∧
  (∀ t s : State,
     let holdStands (a : HostAccess) := (∃ v, t.supply.part = .starting v) ∨
       (a.dir = .write ∧ t.assembler.waiting ≠ none ∧ ∃ c, t.setup.inForce = some c ∧
         c.windowBase ≤ a.addr.toNat ∧ a.addr.toNat < c.windowBase + 128)
     (let u := State.pump t
      State.settlePorts t s =
        ((if s.shown = u.shown then u
          else { u with status := { u.status with demand := true } }).arbitrate).judgeLine.seal) ∧
     (t.port.current = none → t.port.behind = [] → State.pump t = t) ∧
     (∀ a job, t.port.current = some { acc := a, phase := .atMemory job } → State.pump t = t) ∧
     (∀ a, t.port.current = some { acc := a, phase := .held } → holdStands a → State.pump t = t) ∧
     (∀ a, t.port.current = some { acc := a, phase := .held } → ¬holdStands a →
       State.pump t = State.pump
         { t with port := { t.port with current := none, behind := a :: t.port.behind } }))

/-! ## Manifest reports (chapter 01) -/

/-- A taken LOAD (R12): the account is STAGED in the lowest FREE slot, CLEAN, with its staging deadline,
and one LOADED record is queued. Nothing else changes. -/
def Obligations.LoadStages : Prop :=
  ∀ (s : State) (seq : Half) (reference : BitVec 64) (placement : Word) (slot : Nat),
    Safety.AtHandler s → bits placement 31 16 = 0 →
    bits placement 15 8 < s.cfg.count → bits placement 15 8 ≤ 3 → bits placement 7 0 ≤ 7 →
    (s.cfg.band (bits placement 7 0)).enabled = true → s.stop ≠ none →
    Safety.notAboard s reference → Safety.lowestFreeAt s slot → s.queue.entries.length < 16 →
    exec (.load seq 0 reference placement) s = .next (State.settle
      { s with
        accounts := s.accounts.set slot (.staged
          { reference := reference, compartment := bits placement 15 8, band := bits placement 7 0,
            verdict := .clean }
          (min (s.clock.seconds + s.cfg.stagingLimit) 4294967295))
        queue := Safety.queued s [
          { time := s.clock.seconds, slot := some slot
            body := .loaded reference slot (bits placement 15 8) (bits placement 7 0) seq }]
        receipt := Safety.takenReceipt s seq 1 } s)

/-- The refusals of a LOAD in the order of R10, after the encoding checks of R105: the first check that fails
gives the reason, and the table and the queue stay as they were. The refusals of a MOVE, a WITHDRAW and a
HANDOVER (R10, R11) after the encoding checks of R105: a reserved bit or a compartment code beyond 3 first,
then the checks of R10 in their order. -/
def Obligations.ManifestRefusals : Prop :=
  (∀ (s : State) (seq : Half) (rsv : BitVec 7) (reference : BitVec 64) (placement : Word),
     Safety.AtHandler s →
     let encoded := rsv = 0 ∧ bits placement 31 16 = 0 ∧ bits placement 15 8 ≤ 3 ∧ bits placement 7 0 ≤ 7
     let placed := bits placement 15 8 < s.cfg.count ∧ (s.cfg.band (bits placement 7 0)).enabled = true
     let refusal (r : ReportRefusal) :=
       exec (.load seq rsv reference placement) s = .next (State.settle (Safety.refused s seq r) s)
     (¬(encoded ∧ placed) → refusal .badField) ∧
     (encoded → placed → s.stop = none → refusal .wrongState) ∧
     (encoded → placed → s.stop ≠ none → ¬Safety.notAboard s reference → refusal .duplicate) ∧
     (encoded → placed → s.stop ≠ none → Safety.notAboard s reference → .free ∉ s.accounts →
       refusal .tableFull) ∧
     (encoded → placed → s.stop ≠ none → Safety.notAboard s reference → .free ∈ s.accounts →
       16 ≤ s.queue.entries.length → refusal .queueFull)) ∧
  (∀ (s : State) (seq : Half) (rsv : BitVec 7) (reference : BitVec 64) (target : Word)
     (receiver : Option Word) (slot : Nat) (e : Entry) (c : Consignment), Safety.AtHandler s →
     let refusal (i : Instr) (r : ReportRefusal) :=
       exec i s = .next (State.settle (Safety.refused s seq r) s)
     let move := Instr.move seq 0 reference target
     let withdraw := Instr.withdraw seq 0 reference
     let handover := Instr.handover seq 0 reference receiver
     let encoded := bits target 31 16 = 0 ∧ bits target 7 0 = 0 ∧ bits target 15 8 ≤ 3
     let fits := encoded ∧ bits target 15 8 < s.cfg.count
     let aboard := Safety.aboardAt s reference slot e ∧ e.consignment = some c
     let placed := fits ∧ aboard ∧ c.compartment ≠ bits target 15 8
     let closing := ∃ o t, e = .closing c o t
     (rsv ≠ 0 ∨ ¬encoded → refusal (.move seq rsv reference target) .badField) ∧
     (rsv ≠ 0 → refusal (.withdraw seq rsv reference) .badField ∧
       refusal (.handover seq rsv reference receiver) .badField) ∧
     (encoded → s.cfg.count ≤ bits target 15 8 → refusal move .badField) ∧
     (encoded → aboard → c.compartment = bits target 15 8 → refusal move .badField) ∧
     (fits → Safety.notAboard s reference → s.stop = none → refusal move .wrongState) ∧
     (placed → s.stop = none → refusal move .wrongState) ∧
     (fits → Safety.notAboard s reference → s.stop ≠ none → refusal move .unknownConsignment) ∧
     (placed → s.stop ≠ none → closing → refusal move .wrongState) ∧
     (placed → s.stop ≠ none → ¬closing → 16 ≤ s.queue.entries.length → refusal move .queueFull) ∧
     (Safety.notAboard s reference → refusal withdraw .unknownConsignment) ∧
     (aboard → (∀ d, e ≠ .staged c d) → refusal withdraw .wrongState) ∧
     (aboard → (∃ d, e = .staged c d) → 16 ≤ s.queue.entries.length → refusal withdraw .queueFull) ∧
     (s.stop = none → refusal handover .wrongState) ∧
     (s.stop ≠ none → Safety.notAboard s reference → refusal handover .unknownConsignment) ∧
     (aboard → closing → s.stop ≠ none → refusal handover .wrongState) ∧
     (aboard → (∃ d, e = .staged c d) ∨ (∃ t, e = .tracked c t ∧ t.excursion = none) →
       s.stop ≠ none → 16 ≤ s.queue.entries.length → refusal handover .queueFull) ∧
     (aboard → (∃ t, e = .tracked c t ∧ t.excursion ≠ none) →
       s.stop ≠ none → 15 ≤ s.queue.entries.length → refusal handover .queueFull))

/-- A taken MOVE (R20, R21): the account's compartment changes and one MOVED record is queued; every other field
of the entry is kept, and the unit-off standing is judged again (R46). A taken WITHDRAW (R24): the STAGED
entry is FREE at once, its staging deadline with it, and one WITHDRAWN record is queued. Nothing else
changes. -/
def Obligations.MoveAndWithdraw : Prop :=
  (∀ (s : State) (seq : Half) (reference : BitVec 64) (target : Word) (slot : Nat) (e f : Entry)
     (c : Consignment),
     Safety.AtHandler s → bits target 31 16 = 0 → bits target 7 0 = 0 →
     bits target 15 8 < s.cfg.count → bits target 15 8 ≤ 3 → s.stop ≠ none →
     Safety.aboardAt s reference slot e → c.compartment ≠ bits target 15 8 →
     s.queue.entries.length < 16 →
     ((∃ d, e = .staged c d ∧ f = .staged { c with compartment := bits target 15 8 } d) ∨
       (∃ t, e = .tracked c t ∧ f = .tracked { c with compartment := bits target 15 8 } t)) →
     exec (.move seq 0 reference target) s = .next (State.settle
       { State.judgeUnitOff { s with
           accounts := s.accounts.set slot f
           queue := Safety.queued s [
             { time := s.clock.seconds, slot := some slot
               body := .moved reference c.compartment (bits target 15 8) }] } with
         receipt := Safety.takenReceipt s seq 1 } s)) ∧
  (∀ (s : State) (seq : Half) (reference : BitVec 64) (slot : Nat) (c : Consignment) (d : Nat),
     Safety.AtHandler s → Safety.aboardAt s reference slot (.staged c d) →
     s.queue.entries.length < 16 →
     exec (.withdraw seq 0 reference) s = .next (State.settle
       { s with
         accounts := s.accounts.set slot .free
         queue := Safety.queued s
           [{ time := s.clock.seconds, slot := some slot, body := .withdrawn reference }]
         receipt := Safety.takenReceipt s seq 1 } s))

/-- A taken HANDOVER of a TRACKED account (R25, R26): the EXCURSION record of a current excursion with its
flags, the CLOSED record, and the entry CLOSING with its totals as its last evaluation left them. A taken
HANDOVER of a STAGED account (R27): CLOSING without opening, UNPROVEN (STAGING) unless the verdict stood
higher, one CLOSED record with totals of 0, and UNPROVEN latched with the change (R8). -/
def Obligations.HandoverCloses : Prop :=
  (∀ (s : State) (seq : Half) (reference : BitVec 64) (receiver : Option Word) (slot : Nat)
     (c : Consignment) (t : Tracking),
     Safety.AtHandler s → s.stop ≠ none → Safety.aboardAt s reference slot (.tracked c t) →
     s.queue.entries.length + (if t.excursion = none then 1 else 2) ≤ 16 →
     let records : List QEntry :=
       (match t.excursion with
         | none => []
         | some x =>
           [{ time := s.clock.seconds, slot := some slot
              body := .excursion reference x.start s.clock.seconds x.peak x.allowed x.brk
                (x.brk == 0 && x.unallowed == 0)
                (decide (0 < x.allowed) && !(x.brk == 0 && x.unallowed == 0)) true }])
       ++ [
             { time := s.clock.seconds, slot := some slot
               body := .closed reference c.verdict (some t.opening.time) t.totals receiver }]
     exec (.handover seq 0 reference receiver) s = .next (State.settle
       { State.judgeUnitOff { s with
           accounts := s.accounts.set slot (.closing c (some t.opening) t.totals)
           queue := Safety.queued s records } with
         receipt := Safety.takenReceipt s seq records.length } s)) ∧
  (∀ (s : State) (seq : Half) (reference : BitVec 64) (receiver : Option Word) (slot : Nat)
     (c : Consignment) (d : Nat),
     Safety.AtHandler s → s.stop ≠ none → Safety.aboardAt s reference slot (.staged c d) →
     s.queue.entries.length < 16 →
     let v := if c.verdict = .clean then .unproven .staging else c.verdict
     exec (.handover seq 0 reference receiver) s = .next (State.settle
       { s with
         accounts := s.accounts.set slot (.closing { c with verdict := v } none Totals.zero)
         queue := Safety.queued s [
           { time := s.clock.seconds, slot := some slot
             body := .closed reference v none Totals.zero receiver }]
         alert := { s.alert with latched := Safety.latchedIf s (c.verdict == .clean) .unproven }
         receipt := Safety.takenReceipt s seq 1 } s))

/-- A taken QUERY (R114, R192) copies the entry as it stands, CLOSING included, into the account view with the
QUERY's sequence and the slot, and raises a demand, a repeated one too. It queues no record. A QUERY of a
reference that no entry aboard carries is refused UNKNOWN_CONSIGNMENT (R3), and one with a reserved header
bit set is refused BAD_FIELD before that (R105, R213). -/
def Obligations.QueryReports : Prop :=
  (∀ (s : State) (seq : Half) (reference : BitVec 64) (slot : Nat) (e : Entry),
     Safety.AtHandler s → Safety.aboardAt s reference slot e →
     exec (.query seq 0 reference) s = .next (State.settle
       { s with
         alert := { s.alert with view := some { seq := seq, slot := slot, entry := e } }
         status := { s.status with demand := true }
         receipt := Safety.takenNothingQueued s seq } s)) ∧
  (∀ (s : State) (seq : Half) (rsv : BitVec 7) (reference : BitVec 64), Safety.AtHandler s →
     (Safety.notAboard s reference → exec (.query seq 0 reference) s =
       .next (State.settle (Safety.refused s seq .unknownConsignment) s)) ∧
     (rsv ≠ 0 → exec (.query seq rsv reference) s =
       .next (State.settle (Safety.refused s seq .badField) s)))

/-- A record joins the queue behind its newest entry while there is room (R117). With the queue full it is
lost (R118, R119): the pending-loss count and times, the lost-records counter, RECORD_LOST, and every
CLEAN account it concerns becomes UNPROVEN (RECORD_LOST), which latches UNPROVEN if one did. A record of
one account concerns the entry of its slot, but WITHDRAWN none; a GAP or DOUBT record concerns every TRACKED
account of its compartment, a POWER or RESET record every TRACKED account, any other none (R127). -/
def Obligations.ProduceQueuesOrLoses : Prop :=
  ∀ (s : State) (q : QEntry),
    let tracked (e : Entry) (here : Nat → Prop) := ∃ c t, e = Entry.tracked c t ∧ here c.compartment
    let concerns (slot : Nat) (e : Entry) : Prop := match q.body with
      | .loaded .. => q.slot = some slot
      | .opened .. => q.slot = some slot
      | .excursion .. => q.slot = some slot
      | .moved .. => q.slot = some slot
      | .verdict .. => q.slot = some slot
      | .closed .. => q.slot = some slot
      | .gap k _ _ _ => tracked e (fun j => j = k)
      | .doubt k _ _ _ _ => tracked e (fun j => j = k)
      | .power .. => tracked e (fun _ => True)
      | .reset .. => tracked e (fun _ => True)
      | _ => False
    let clean (e : Entry) := ∃ c, e.consignment = some c ∧ c.verdict = .clean
    (s.queue.entries.length < 16 → s.produce q = { s with queue := Safety.queued s [q] }) ∧
    (16 ≤ s.queue.entries.length → ∃ (accounts : List Entry) (latched : BitVec 13), s.produce q = { s with
        accounts := accounts
        queue := { s.queue with
          loss := some
            { count := min ((s.queue.loss.map PendingLoss.count).getD 0 + 1) 4294967295
              first := (s.queue.loss.map PendingLoss.first).getD s.clock.seconds
              last := s.clock.seconds } }
        alert := { s.alert with
          counters := { s.alert.counters with
            lostRecords := min (s.alert.counters.lostRecords + 1) 65535 }
          latched := latched } } ∧
      accounts.length = s.accounts.length ∧
      (∀ (slot : Nat) (e : Entry), s.accounts[slot]? = some e →
        (concerns slot e → clean e → accounts[slot]? =
          some (e.mapConsignment (fun d => { d with verdict := .unproven .recordLost }))) ∧
        (¬(concerns slot e ∧ clean e) → accounts[slot]? = some e)) ∧
      (accounts = s.accounts → latched = s.alert.latched ||| Cause.recordLost.bit) ∧
      (accounts ≠ s.accounts →
        latched = s.alert.latched ||| Cause.recordLost.bit ||| Cause.unproven.bit))

/-- The unit-off standing of a compartment (R46): yes exactly while its unit is OFF and a TRACKED account is in
it. A turn from no to yes latches UNIT_OFF. LOG_NEAR_FULL stands while free is less than the threshold in
force, and its beginning latches its cause (R122, R124). -/
def Obligations.StandingConditionsJudged : Prop :=
  (∀ s : State,
     let stands (k : Nat) (c : Compartment) : Prop :=
       c.unit = .off ∧ ∃ a t, Entry.tracked a t ∈ s.accounts ∧ a.compartment = k
     ∃ cs latched, s.judgeUnitOff =
         { s with compartments := cs, alert := { s.alert with latched := latched } } ∧
       cs.length = s.compartments.length ∧
       (∀ k c, s.compartments[k]? = some c → ∃ b, cs[k]? = some { c with unitOff := b } ∧
         (b = true ↔ stands k c)) ∧
       ((∃ k c, s.compartments[k]? = some c ∧ c.unitOff = false ∧ stands k c) →
         latched = s.alert.latched ||| Cause.unitOff.bit) ∧
       ((¬∃ k c, s.compartments[k]? = some c ∧ c.unitOff = false ∧ stands k c) →
         latched = s.alert.latched)) ∧
  (∀ (s : State) (c : Setup) (l : LogState), s.setup.inForce = some c → s.writer.log = some l →
     let stands := decide (c.logSize - l.used < c.nearFull)
     s.judgeNearFull =
       { s with
         writer := { s.writer with nearFull := stands }
         alert := { s.alert with
           latched := Safety.latchedIf s (stands && !s.writer.nearFull) .logNearFull } })

/-! ## Deadlines of the account table (R18, R64) -/

/-- At its staging deadline a STAGED account opens at the deadline time (R18): TRACKED, UNPROVEN (STAGING), with
an OPENED record of that time without a reading. At its gap deadline a TRACKED account loses the deadline
(R64). A CLEAN one becomes UNPROVEN (GAP), queues a VERDICT record with the deadline time and latches
UNPROVEN; any other keeps its verdict. -/
def Obligations.AccountDeadlines : Prop :=
  (∀ (s : State) (slot : Nat) (c : Consignment) (d : Nat),
     s.accounts[slot]? = some (.staged c d) → c.verdict = .clean → d ≤ s.clock.seconds →
     s.supply.part ≠ .retain →
     let c1 : Consignment := { c with verdict := .unproven .staging }
     exec (.stagingDeadline slot) s = .next (State.settle
       (State.judgeUnitOff (State.produce
         { s with
           accounts := s.accounts.set slot (.tracked c1
             { opening := { time := d, recordSeq := none }
               excursion := none
               totals := { breakDose := 0, allowanceDose := 0, gap := 0, excursions := 0,
                           peakWarm := none, peakCold := none }
               lastGood := d
               gapDeadline := some (min (d + s.cfg.gapLimit) 4294967295) })
           alert := { s.alert with latched := s.alert.latched ||| Cause.unproven.bit } }
         { time := d, slot := some slot
           body := .opened c.reference slot c.compartment c.band (.unproven .staging) none })) s)) ∧
  (∀ (s : State) (slot : Nat) (c : Consignment) (t : Tracking) (d : Nat),
     s.accounts[slot]? = some (.tracked c t) → t.gapDeadline = some d → d ≤ s.clock.seconds →
     s.supply.part ≠ .retain →
     (c.verdict = .clean → exec (.gapDeadline slot) s = .next (State.settle (State.produce
       { s with
         accounts := s.accounts.set slot
           (.tracked { c with verdict := .unproven .gap } { t with gapDeadline := none })
         alert := { s.alert with latched := s.alert.latched ||| Cause.unproven.bit } }
       { time := d, slot := some slot
         body := .verdict c.reference (.unproven .gap) t.totals.breakDose t.totals.gap }) s)) ∧
     (c.verdict ≠ .clean → exec (.gapDeadline slot) s = .next (State.settle
       { s with accounts := s.accounts.set slot (.tracked c { t with gapDeadline := none }) } s)))

/-! ## Compartments (chapter 02) -/

/-- The probe mode and the effective reading follow from which fitted probes are present (R35). The three runs
at a taken READING (R37), for the mode that B fitted and the present values give. The doubtful flag (R38):
raised while cleared when the disagreement or absence run reaches the doubt count, cleared while raised when
the trust run does, kept otherwise. -/
def Obligations.ProbesRunsAndDoubt : Prop :=
  (∀ a b : Int,
     (formMode true (some a) (some b) = .dual ∧
       formEffective true (some a) (some b) = some { warm := max a b, cold := min a b }) ∧
     (formMode true (some a) none = .singleA ∧
       formEffective true (some a) none = some { warm := a, cold := a }) ∧
     (formMode true none (some b) = .singleB ∧
       formEffective true none (some b) = some { warm := b, cold := b }) ∧
     (formMode true none none = .none ∧ formEffective true none none = none) ∧
     (∀ p, formMode false (some a) p = .singleA ∧
       formEffective false (some a) p = some { warm := a, cold := a }) ∧
     (∀ p, formMode false none p = .none ∧ formEffective false none p = none)) ∧
  (∀ (r : Runs) (tolerance : Nat) (bFitted : Bool) (a b : Option Int),
     let q := r.update bFitted (disagrees tolerance a b) (formMode bFitted a b)
     (∀ x y, bFitted = true → a = some x → b = some y → tolerance < (x - y).natAbs →
       q = { disagree := min (r.disagree + 1) 15, absence := 0, trust := 0 }) ∧
     (∀ x y, bFitted = true → a = some x → b = some y → (x - y).natAbs ≤ tolerance →
       q = { disagree := 0, absence := 0, trust := min (r.trust + 1) 15 }) ∧
     (bFitted = false → a ≠ none →
       q = { disagree := 0, absence := 0, trust := min (r.trust + 1) 15 }) ∧
     ((bFitted = true ∧ (a = none ∨ b = none)) ∨ (bFitted = false ∧ a = none) →
       q = { disagree := r.disagree, absence := min (r.absence + 1) 15, trust := 0 })) ∧
  (∀ (count : Nat) (before after : Runs),
     let reaches (p q : Nat) := p < count ∧ count ≤ q
     (reaches before.disagree after.disagree →
       doubtChange count none before after = some { raised := true, cause := .disagree }) ∧
     (¬reaches before.disagree after.disagree → reaches before.absence after.absence →
       doubtChange count none before after = some { raised := true, cause := .absent }) ∧
     (¬reaches before.disagree after.disagree → ¬reaches before.absence after.absence →
       doubtChange count none before after = none) ∧
     (∀ cause, (reaches before.trust after.trust →
         doubtChange count (some cause) before after = some { raised := false, cause := cause }) ∧
       (¬reaches before.trust after.trust →
         doubtChange count (some cause) before after = none)) ∧
     (∀ cause raising, doubtAfter raising (some { raised := true, cause := cause }) = some cause ∧
       doubtAfter raising (some { raised := false, cause := cause }) = none ∧
       doubtAfter raising none = raising))

/-- The step of an allowance machine at a taken READING (R41, R44). A GRACE or RECOVERY expiry that the clock
has reached (R43): GRACE becomes EXPIRED, RECOVERY becomes IDLE, the expiry is removed, no record is queued
and no cause latched. -/
def Obligations.AllowanceMachines : Prop :=
  (∀ now grace recovery e : Nat,
     let fresh : Allowance := if grace = 0 then .expired else .grace (min (now + grace) 4294967295)
     Allowance.step .idle true now grace recovery = fresh ∧
     Allowance.step .idle false now grace recovery = .idle ∧
     Allowance.step (.grace e) true now grace recovery = .grace e ∧
     Allowance.step (.grace e) false now grace recovery =
       .recovery (min (now + recovery) 4294967295) ∧
     Allowance.step .expired true now grace recovery = .expired ∧
     Allowance.step .expired false now grace recovery = .idle ∧
     Allowance.step (.recovery e) true now grace recovery = fresh ∧
     Allowance.step (.recovery e) false now grace recovery = .recovery e) ∧
  (∀ (s : State) (k : Nat) (c : Compartment) (e : Nat),
     s.compartments[k]? = some c → e ≤ s.clock.seconds → s.supply.part ≠ .retain →
     let moved (d : Compartment) : Host.Outcome State Fault Refusal :=
       .next (State.settle { s with compartments := s.compartments.set k d } s)
     (c.doorMachine = .grace e →
       exec (.graceExpiry k .door) s = moved { c with doorMachine := .expired }) ∧
     (c.defrostMachine = .grace e →
       exec (.graceExpiry k .defrost) s = moved { c with defrostMachine := .expired }) ∧
     (c.doorMachine = .recovery e →
       exec (.recoveryExpiry k .door) s = moved { c with doorMachine := .idle }) ∧
     (c.defrostMachine = .recovery e →
       exec (.recoveryExpiry k .defrost) s = moved { c with defrostMachine := .idle }))

/-- The compartment update of a taken READING (R33 to R44): probes within -50.0 to +70.0 degrees are present, an
unfitted probe B never is, and both machines step. One compartment's turn of a taken READING (R33, R39): its
record is updated from its probe and state words; a raising or clearing of doubt queues one DOUBT record
with the reading's probes and the cause of the raising, and a raising latches PROBE_DOUBT, whether or not
another compartment is in doubt. The compartments take their turns from 0 up, and the unit-off standing is
then judged (R46). -/
def Obligations.CompartmentUpdated : Prop :=
  (∀ (c : Compartment) (cfg : Setup) (atStop : Bool) (now : Nat) (probe state : Word),
     let d := c.update cfg atStop now probe state
     let temp (lo : Nat) : Option Int :=
       if -500 ≤ (probe.extractLsb' lo 16).toInt ∧ (probe.extractLsb' lo 16).toInt ≤ 700 then
         some (probe.extractLsb' lo 16).toInt else none
     d.bFitted = c.bFitted ∧ d.probeA = temp 16 ∧ d.probeB = (if c.bFitted then temp 0 else none) ∧
     d.mode = formMode c.bFitted d.probeA d.probeB ∧
     d.effective = formEffective c.bFitted d.probeA d.probeB ∧
     d.lastPresent = (if d.effective = none then c.lastPresent else some now) ∧
     d.runs = c.runs.update c.bFitted (disagrees cfg.tolerance d.probeA d.probeB) d.mode ∧
     d.doubt = doubtAfter c.doubt (doubtChange cfg.doubtCount c.doubt c.runs d.runs) ∧
     (d.door = .opened ↔ bits state 3 0 = 2) ∧ (d.door = .closed ↔ bits state 3 0 = 1) ∧
     (d.unit = .defrost ↔ bits state 7 4 = 2) ∧ (d.unit = .off ↔ bits state 7 4 = 3) ∧
     (d.unit = .running ↔ bits state 7 4 = 1) ∧
     d.doorMachine = c.doorMachine.step (d.door == .opened) now
       (if atStop then cfg.stopGrace else cfg.awayGrace) cfg.recovery ∧
     d.defrostMachine =
       c.defrostMachine.step (d.unit == .defrost) now cfg.defrostGrace cfg.recovery ∧
     d.unitOff = c.unitOff) ∧
  (∀ (s : State) (r : Report),
     (∀ (k : Nat) (c : Compartment), s.compartments[k]? = some c →
       let d := c.update s.cfg s.stop.isSome s.clock.seconds (r.body.getD (2 * k + 1) 0)
         (r.body.getD (2 * k + 2) 0)
       let change := doubtChange s.cfg.doubtCount c.doubt c.runs d.runs
       let u : State := { s with compartments := s.compartments.set k d }
       let record (raised : Bool) (cause : DoubtCause) : QEntry :=
         { time := s.clock.seconds, slot := none, body := .doubt k raised cause d.probeA d.probeB }
       (change = none → s.updateCompartment r k = u) ∧
       (∀ cause, change = some { raised := true, cause := cause } → s.updateCompartment r k =
         State.produce { u with
           alert := { u.alert with latched := u.alert.latched ||| Cause.probeDoubt.bit } }
           (record true cause)) ∧
       (∀ cause, change = some { raised := false, cause := cause } →
         s.updateCompartment r k = u.produce (record false cause))) ∧
     (s.compartments.length = 1 → s.updateCompartments r = (s.updateCompartment r 0).judgeUnitOff) ∧
     (s.compartments.length = 2 → s.updateCompartments r =
       ((s.updateCompartment r 0).updateCompartment r 1).judgeUnitOff) ∧
     (s.compartments.length = 3 → s.updateCompartments r =
       (((s.updateCompartment r 0).updateCompartment r 1).updateCompartment r 2).judgeUnitOff) ∧
     (s.compartments.length = 4 → s.updateCompartments r =
       ((((s.updateCompartment r 0).updateCompartment r 1).updateCompartment r 2).updateCompartment r
         3).judgeUnitOff))

/-- ARRIVE and DEPART (R47): the stop state, one STOP record, and their two refusals in order. A reserved bit of
the header or of the body is refused BAD_FIELD before them (R105, R213). A taken TIME report (R211) queues
one TIME record with the host's two words; with no room it is refused QUEUE_FULL, and with a reserved header
bit set BAD_FIELD before that (R105, R112, R213). -/
def Obligations.StopAndTimeReports : Prop :=
  (∀ (s : State) (seq number : Half), Safety.AtHandler s →
     let arrive := exec (.arrive seq 0 number 0) s
     let depart := exec (.depart seq 0 number 0) s
     let refusal (r : ReportRefusal) : Host.Outcome State Fault Refusal :=
       .next (State.settle (Safety.refused s seq r) s)
     let taken (stop : Option Half) (arriving : Bool) : Host.Outcome State Fault Refusal :=
       .next (State.settle
         { s with
           stop := stop
           queue := Safety.queued s
             [{ time := s.clock.seconds, slot := none, body := .stop number arriving }]
           receipt := Safety.takenReceipt s seq 1 } s)
     (s.stop ≠ none → arrive = refusal .wrongState) ∧
     (s.stop = none → 16 ≤ s.queue.entries.length → arrive = refusal .queueFull) ∧
     (s.stop = none → s.queue.entries.length < 16 → arrive = taken (some number) true) ∧
     (s.stop ≠ some number → depart = refusal .wrongState) ∧
     (s.stop = some number → 16 ≤ s.queue.entries.length → depart = refusal .queueFull) ∧
     (s.stop = some number → s.queue.entries.length < 16 → depart = taken none false) ∧
     (∀ (rsv : BitVec 7) (bodyRsv : BitVec 14), rsv ≠ 0 ∨ bodyRsv ≠ 0 →
       exec (.arrive seq rsv number bodyRsv) s = refusal .badField ∧
       exec (.depart seq rsv number bodyRsv) s = refusal .badField)) ∧
  (∀ (s : State) (seq : Half) (high low : Word), Safety.AtHandler s →
     (s.queue.entries.length < 16 → exec (.time seq 0 high low) s = .next (State.settle
       { s with
         queue := Safety.queued s
           [{ time := s.clock.seconds, slot := none, body := .time high low }]
         receipt := Safety.takenReceipt s seq 1 } s)) ∧
     (16 ≤ s.queue.entries.length → exec (.time seq 0 high low) s =
       .next (State.settle (Safety.refused s seq .queueFull) s)) ∧
     (∀ rsv : BitVec 7, rsv ≠ 0 → exec (.time seq rsv high low) s =
       .next (State.settle (Safety.refused s seq .badField) s)))

/-! ## Cadence and gaps (chapter 03) -/

/-- The tracker's step at an accepted reading (R52): its state, miss count, deadline and last sequence,
CADENCE_LOST ending at LOCKED (R56), and the skip addition formed before (R55). An expected-arrival deadline
that the clock has reached (R53): CONFIRM falls to ACQUIRE, LOCKED counts a miss and moves its deadline by
one period, and at the third becomes LOST, where CADENCE_LOST begins and its cause is latched. CADENCE_LOST
otherwise stands as it did, in CONFIRM entered from LOST too (R56). -/
def Obligations.CadenceSteps : Prop :=
  (∀ (s : State) (seq : Half),
     let skip : Nat := match s.cadence.lastSeq with
       | none => 0
       | some last => ((seq - last).toNat : Int) - 1 - (s.cadence.miss : Int) |>.toNat
     let next : CadenceState := match s.cadence.state with
       | .acquire => .confirm
       | .confirm => .locked
       | .locked => .locked
       | .lost => .confirm
     s.acceptReading seq =
       { s with
         cadence :=
           { state := next
             deadline := some (min (s.clock.seconds + (s.cfg.period + s.cfg.window)) 4294967295)
             miss := 0
             lastSeq := some seq
             lostStanding := if next = .locked then false else s.cadence.lostStanding }
         alert := { s.alert with
           counters := { s.alert.counters with
             missedReadings := min (s.alert.counters.missedReadings + skip) 65535 } } }) ∧
  (∀ (s : State) (d : Nat), s.cadence.deadline = some d → d ≤ s.clock.seconds →
     s.supply.part ≠ .retain →
     let after (c : Cadence) (latched : BitVec 13) : Host.Outcome State Fault Refusal :=
       .next (State.settle
         { s with
           cadence := c
           alert := { s.alert with
             latched := latched
             counters := { s.alert.counters with
               missedReadings := min (s.alert.counters.missedReadings + 1) 65535 } } } s)
     (s.cadence.state = .confirm → exec .expectedArrivalDeadline s =
       after { s.cadence with state := .acquire, miss := 1, deadline := none } s.alert.latched) ∧
     (s.cadence.state = .locked → s.cadence.miss < 2 → exec .expectedArrivalDeadline s =
       after { s.cadence with
         miss := s.cadence.miss + 1, deadline := some (min (d + s.cfg.period) 4294967295) }
         s.alert.latched) ∧
     (s.cadence.state = .locked → s.cadence.miss = 2 → exec .expectedArrivalDeadline s =
       after { s.cadence with state := .lost, miss := 3, deadline := none, lostStanding := true }
         (s.alert.latched ||| Cause.cadenceLost.bit)))

/-- A READING at its handler (R33, R51, R105, R110): a sequence that is newer than the last, or the first, is
taken as one operation of cadence step, compartment update, search for missed time and account walk, in that
order. A READING that is not well encoded is refused BAD_FIELD (R110): a reserved bit of the header, of body
word 1 or of a state word, a count of 0, of 5 to 7 or other than the setup's, a body of another length, a
door or unit outside its encoding. A well-encoded one whose sequence is not newer than the last taken one is
refused STALE (R51). Each comes before the cadence tracker steps. -/
def Obligations.ReadingTakenOrRefused : Prop :=
  (∀ (s : State) (seq readingSeq : Half) (words : List Word),
     Safety.AtHandler s → 1 ≤ s.cfg.count → s.cfg.count ≤ 4 → words.length = 2 * s.cfg.count →
     (∀ k < s.cfg.count, let w := words.getD (2 * k + 1) 0
       bits w 31 8 = 0 ∧ bits w 7 4 ≤ 3 ∧ bits w 3 0 ≤ 2) →
     (∀ last, s.cadence.lastSeq = some last →
       1 ≤ (readingSeq - last).toNat ∧ (readingSeq - last).toNat ≤ 32767) →
     let head : Word := readingSeq ++ BitVec.ofNat 16 s.cfg.count
     let report : Report := { seq := seq, kind := .reading, rsv := 0, body := head :: words }
     let accepted := s.acceptReading readingSeq
     let updated := accepted.updateCompartments report
     let searched := updated.searchGaps (s.compartments.map Compartment.lastPresent)
     exec (.reading seq 0 (head :: words)) s =
       .next (State.settle (searched.walk.take seq) s)) ∧
  (∀ (s : State) (seq last : Half) (rsv : BitVec 7) (head : Word) (words : List Word),
     Safety.AtHandler s →
     let count := bits head 2 0
     let refusal (r : ReportRefusal) := exec (.reading seq rsv (head :: words)) s =
       .next (State.settle (Safety.refused s seq r) s)
     let badState := ∃ k < count, let w := words.getD (2 * k + 1) 0
       bits w 31 8 ≠ 0 ∨ 3 < bits w 7 4 ∨ 2 < bits w 3 0
     let bad := rsv ≠ 0 ∨ bits head 15 3 ≠ 0 ∨ count = 0 ∨ 5 ≤ count ∨ count ≠ s.cfg.count ∨
       words.length ≠ 2 * count ∨ badState
     (bad → refusal .badField) ∧
     (¬bad → s.cadence.lastSeq = some last →
       (head.extractLsb' 16 16 = last ∨ 32768 ≤ (head.extractLsb' 16 16 - last).toNat) →
       refusal .stale))

/-- What a taken READING leaves unchanged. -/
def Obligations.ReadingFrame : Prop :=
  ∀ (s t : State) (seq : Half) (rsv : BitVec 7) (body : List Word),
    Safety.AtHandler s → exec (.reading seq rsv body) s = .next t →
    t.pending = s.pending ∧ t.free = s.free ∧ t.clock = s.clock ∧ t.mem = s.mem ∧ t.stop = s.stop ∧
    t.assembler = s.assembler ∧
    (s.queue.entries ≠ [] → t.receipt.recordedThrough = s.receipt.recordedThrough) ∧
    t.writer = s.writer ∧ t.setup = s.setup ∧ t.scanner = s.scanner ∧ t.arbiter = s.arbiter ∧
    t.port = s.port ∧ t.rejected = s.rejected ∧ t.supply.part = s.supply.part ∧
    t.accounts.length = s.accounts.length ∧ t.compartments.length = s.compartments.length ∧
    (∀ slot : Nat, s.accounts[slot]? = some Entry.free → t.accounts[slot]? = some Entry.free)

/-- The search for missed time in one compartment (R61, R62): one GAP record from the previous last
present time when the reading is present and came later than period + window; its cause is POWER when
the span shares a second with the last power-loss interval. The whole search makes these turns for every
compartment record from 0 upward, each with its own previous last present time (R61). -/
def Obligations.MissedTimeRecorded : Prop :=
  (∀ (s : State) (k : Nat) (c : Compartment) (previous : Option Nat), s.compartments[k]? = some c →
    (c.effective = none ∨ previous = none ∨
        (∃ p, previous = some p ∧ s.clock.seconds - p ≤ s.cfg.period + s.cfg.window) →
      s.searchGap previous k = s) ∧
    (∀ p, c.effective ≠ none → previous = some p →
      s.cfg.period + s.cfg.window < s.clock.seconds - p →
      let overlaps := ∃ l r, s.supply.powerLoss = some { loss := l, ret := some r } ∧
        l ≤ s.clock.seconds ∧ p ≤ r
      (overlaps → s.searchGap previous k = s.produce
        { time := s.clock.seconds, slot := none, body := .gap k p s.clock.seconds .power }) ∧
      (¬overlaps → s.searchGap previous k = s.produce
        { time := s.clock.seconds, slot := none, body := .gap k p s.clock.seconds .missed }))) ∧
  (∀ (s : State) (previous : List (Option Nat)), s.searchGaps previous =
    (List.range s.compartments.length).foldl
      (fun u k => State.searchGap u ((previous[k]?).getD none) k) s)

/-! ## Evaluation of accounts (chapter 04) -/

/-- The excess at a reading (R69): the warm side first, then the cold side, else 0. -/
def Obligations.ExcessFormed : Prop :=
  ∀ (b : Band) (e : Effective),
    (b.high < e.warm → (excess b e : Int) = e.warm - b.high) ∧
    (e.warm ≤ b.high → e.cold < b.low → (excess b e : Int) = b.low - e.cold) ∧
    (e.warm ≤ b.high → b.low ≤ e.cold → excess b e = 0)

/-- What one evaluation charges (R59, R74, R77, R78, R81, R88): the uncovered time to the gap total, the excess
times the covered time as allowance dose up to the allowance room while the allowance is active and as break
dose otherwise, the peaks, and the last good time with its gap deadline. Additions saturate; with the
highest allowance budget nothing overflows into break dose (R79, read so where R77's room would say
otherwise: DEDUCED, log 35). The current excursion over one evaluation (R75, R76, R78, R80, R85): excess
starts or goes on with it and charges it; excess 0 ends it as it stands. -/
def Obligations.EvaluationCharges : Prop :=
  (∀ (cfg : Setup) (b : Band) (now : Nat) (e : Effective) (active : Bool) (v : Verdict) (t : Tracking),
     let r := evaluate cfg b now e active v t
     let interval := now - t.lastGood
     let covered := min interval (cfg.period + cfg.window)
     let amount := excess b e * covered
     let room := b.allowanceBudget - t.totals.allowanceDose
     let takes := if b.allowanceBudget = 4294967295 then amount else min amount room
     let allowed := if active then takes else 0
     let sat (n : Nat) := min n 4294967295
     r.tracking.totals.gap = sat (t.totals.gap + (interval - covered)) ∧
     r.tracking.totals.allowanceDose = sat (t.totals.allowanceDose + allowed) ∧
     r.tracking.totals.breakDose = sat (t.totals.breakDose + (amount - allowed)) ∧
     r.tracking.totals.peakWarm = some (match t.totals.peakWarm with
       | none => e.warm
       | some p => max p e.warm) ∧
     r.tracking.totals.peakCold = some (match t.totals.peakCold with
       | none => e.cold
       | some p => min p e.cold) ∧
     r.tracking.lastGood = now ∧ r.tracking.gapDeadline = some (sat (now + cfg.gapLimit)) ∧
     r.tracking.opening = t.opening) ∧
  (∀ (cfg : Setup) (b : Band) (now : Nat) (e : Effective) (active : Bool) (v : Verdict) (t : Tracking),
     let r := evaluate cfg b now e active v t
     let x := excess b e
     let covered := min (now - t.lastGood) (cfg.period + cfg.window)
     let takes := if b.allowanceBudget = 4294967295 then x * covered
       else min (x * covered) (b.allowanceBudget - t.totals.allowanceDose)
     let allowed := if active then takes else 0
     let before := t.excursion.getD { start := now, peak := 0, allowed := 0, brk := 0, unallowed := 0 }
     let sat (n : Nat) := min n 4294967295
     (0 < x → r.ended = none ∧ r.tracking.excursion = some
       { start := before.start
         peak := max before.peak x
         allowed := sat (before.allowed + allowed)
         brk := sat (before.brk + (x * covered - allowed))
         unallowed := sat (before.unallowed + if active then 0 else covered) }) ∧
     (0 < x → r.tracking.totals.excursions =
       if t.excursion = none then min (t.totals.excursions + 1) 255 else t.totals.excursions) ∧
     (x = 0 → r.tracking.excursion = none ∧
       r.tracking.totals.excursions = t.totals.excursions ∧
       r.ended = t.excursion.map (fun y =>
         { y with allowed := sat y.allowed, brk := sat y.brk, unallowed := sat y.unallowed })))

/-- The break tests of one evaluation in their order (R71, R82, R83, R84): a verdict that is BROKEN
already keeps its cause; else the first test that finds a break gives it. -/
def Obligations.BreaksInOrder : Prop :=
  ∀ (cfg : Setup) (b : Band) (now : Nat) (e : Effective) (active : Bool) (v : Verdict) (t : Tracking),
    let r := evaluate cfg b now e active v t
    let hard := b.hardHigh < e.warm ∨ e.cold < b.hardLow
    let dose := b.doseBudget < r.tracking.totals.breakDose
    let duration := ∃ y, (r.tracking.excursion = some y ∨ r.ended = some y) ∧ b.timeLimit < y.unallowed
    (∀ c, v = .broken c → r.verdict = v) ∧
    ((∀ c, v ≠ .broken c) →
      (hard → r.verdict = .broken .hardLimit) ∧
      (¬hard → dose → r.verdict = .broken .dose) ∧
      (¬hard → ¬dose → duration → r.verdict = .broken .duration) ∧
      (¬hard → ¬dose → ¬duration → r.verdict = v))

/-- The walk of the account table (R14): the turns of slots 0 to 47 in that order, and then the unit-off
standing (R46). The turn of a FREE or a CLOSING entry does nothing (R14, R73), and that of a TRACKED one is
its evaluation. One turn of a TRACKED account (R72, R85, R86, R89): with no present effective reading
nothing happens; otherwise its entry takes the evaluation's results and the EXCURSION record of an excursion
that ended and the VERDICT record of a break follow in that order, the break latching BROKEN (R8). The
opening test at a taken READING (R15, R16): with the cadence LOCKED, the door CLOSED, a present effective
reading, no doubt, and either no excess or the door machine in RECOVERY, the STAGED account opens with its
OPENED record and is evaluated in the same turn; otherwise it stays as it is. -/
def Obligations.TurnOfSlot : Prop :=
  ((∀ s : State,
     s.walk = State.judgeUnitOff ((List.range 48).foldl (fun u slot => State.walkSlot u slot) s)) ∧
   (∀ (s : State) (slot : Nat) (e : Entry), s.accounts[slot]? = some e →
     (e = .free ∨ (∃ c o t, e = .closing c o t) → s.walkSlot slot = s) ∧
     (∀ c t, e = .tracked c t → s.walkSlot slot = s.evaluateSlot slot)) ∧
   (∀ (s : State) (slot : Nat) (c : Consignment) (t : Tracking) (k : Compartment),
     s.accounts[slot]? = some (.tracked c t) → s.compartments[c.compartment]? = some k →
     (k.effective = none → s.walkSlot slot = s) ∧
     (∀ e, k.effective = some e →
       let r := evaluate s.cfg (s.cfg.band c.band) s.clock.seconds e
         (k.doorMachine.active || k.defrostMachine.active) c.verdict t
       let broke := (∀ x, c.verdict ≠ .broken x) ∧ ∃ x, r.verdict = .broken x
       let s1 : State := { s with
         accounts := s.accounts.set slot (.tracked { c with verdict := r.verdict } r.tracking) }
       let broken (u : State) : State :=
         { u with alert := { u.alert with latched := u.alert.latched ||| Cause.broken.bit } }
       let excursion (x : Excursion) : QEntry :=
         { time := s.clock.seconds, slot := some slot
           body := .excursion c.reference x.start s.clock.seconds x.peak x.allowed x.brk
             (x.brk == 0 && x.unallowed == 0)
             (decide (0 < x.allowed) && !(x.brk == 0 && x.unallowed == 0)) false }
       let verdict : QEntry :=
         { time := s.clock.seconds, slot := some slot
           body := .verdict c.reference r.verdict r.tracking.totals.breakDose r.tracking.totals.gap }
       (¬broke → r.ended = none → s.walkSlot slot = s1) ∧
       (∀ x, ¬broke → r.ended = some x → s.walkSlot slot = s1.produce (excursion x)) ∧
       (broke → r.ended = none → s.walkSlot slot = (broken s1).produce verdict) ∧
       (∀ x, broke → r.ended = some x →
         s.walkSlot slot = ((broken s1).produce (excursion x)).produce verdict)))) ∧
  (∀ (s : State) (slot : Nat) (c : Consignment) (d : Nat) (k : Compartment),
     s.accounts[slot]? = some (.staged c d) → s.compartments[c.compartment]? = some k →
     let opens := s.cadence.state = .locked ∧ k.door = .closed ∧ k.doubt = none ∧
       ∃ e, k.effective = some e ∧
         (excess (s.cfg.band c.band) e = 0 ∨ ∃ x, k.doorMachine = .recovery x)
     let opened : State :=
       { s with accounts := s.accounts.set slot (.tracked c
           { opening := { time := s.clock.seconds, recordSeq := none }
             excursion := none
             totals := { breakDose := 0, allowanceDose := 0, gap := 0, excursions := 0,
                         peakWarm := none, peakCold := none }
             lastGood := s.clock.seconds
             gapDeadline := some (min (s.clock.seconds + s.cfg.gapLimit) 4294967295) }) }
     (opens → s.walkSlot slot = (opened.produce
       { time := s.clock.seconds, slot := some slot
         body := .opened c.reference slot c.compartment c.band c.verdict k.effective }).evaluateSlot
           slot) ∧
     (¬opens → s.walkSlot slot = s))

/-! ## Reports (chapter 05, R138 to R140, R211) -/

/-- A report that goes to its handler while the part is not RUNNING or a setup load is in flight is
refused NOT_READY, whatever its kind (R104). A report that becomes complete while another is in handling
becomes the waiting report, which goes to its handler when the other is decided (R102); with both places
full it is not taken (the model's choice, log 7). A report row is one complete report on this way (log 7):
whatever its kind, in SCANNING and RUNNING its effect is that of the report completed in the window (R97,
R102) with the body that R214 lays out, and elsewhere no report completes (log 6). -/
def Obligations.NotReadyAndWaiting : Prop :=
  (∀ (s : State) (r : Report),
    (s.assembler.handling = none → s.supply.part ≠ .running ∨ s.setup.load ≠ none →
      s.complete r = Safety.refused s r.seq .notReady) ∧
    (∀ q, s.assembler.handling = some q → s.assembler.waiting = none →
      s.complete r = { s with assembler := { s.assembler with waiting := some r } }) ∧
    (s.assembler.handling ≠ none → s.assembler.waiting ≠ none → s.complete r = s) ∧
    (s.assembler.waiting = some r → s.releaseWaiting =
      ({ s with assembler := { s.assembler with handling := none, waiting := none } } :
        State).complete r) ∧
    (s.assembler.waiting = none →
      s.releaseWaiting = { s with assembler := { s.assembler with handling := none } })) ∧
  (∀ (s : State) (seq : Half) (rsv : BitVec 7) (reference : BitVec 64) (words : List Word) (w v : Word)
     (receiver : Option Word) (number : Half) (bodyRsv : BitVec 14),
    let report (kind : ReportKind) (body : List Word) : Report :=
      { seq := seq, kind := kind, rsv := rsv, body := body }
    let named := [reference.extractLsb' 32 32, reference.extractLsb' 0 32]
    let completes := s.supply.part = .scanning ∨ s.supply.part = .running
    let hands (i : Instr) (r : Report) :=
      (completes → exec i s = .next (State.settle (s.complete r) s)) ∧ (¬completes → exec i s = .next s)
    hands (.reading seq rsv words) (report .reading words) ∧
    hands (.load seq rsv reference w) (report .load (named ++ [w])) ∧
    hands (.move seq rsv reference w) (report .move (named ++ [w])) ∧
    hands (.withdraw seq rsv reference) (report .withdraw named) ∧
    hands (.handover seq rsv reference receiver) (report .handover (named ++ receiver.toList)) ∧
    hands (.arrive seq rsv number bodyRsv) (report .stop [number ++ bodyRsv ++ 1#2]) ∧
    hands (.depart seq rsv number bodyRsv) (report .stop [number ++ bodyRsv ++ 2#2]) ∧
    hands (.time seq rsv w v) (report .time [w, v]) ∧
    hands (.query seq rsv reference) (report .query named) ∧
    (completes → exec (.exported seq rsv w v) s =
      .next (State.settlePorts (s.complete (report .exported [w, v])) s)) ∧
    (¬completes → exec (.exported seq rsv w v) s = .next s))

/-- An EXPORTED whose new tail is the head needs no read (R138, R140): it is taken when s + 1 is the next record
sequence, the used count becoming 0, and refused BAD_EXPORT otherwise. An EXPORTED whose new tail is not the
head (R138, R139): with the position inside the used words the report is in handling and the internal reader
asks for one word; otherwise BAD_EXPORT without a read. A reserved header bit is refused BAD_FIELD before
any of this, wherever the new tail lies (R105, R213). -/
def Obligations.ExportedJudged : Prop :=
  (∀ (s : State) (seq : Half) (lastSeq newTail : Word) (l : LogState),
     Safety.AtHandler s → s.writer.log = some l → newTail.toNat = l.head →
     (lastSeq + 1 = l.nextSeq → exec (.exported seq 0 lastSeq newTail) s = .next (State.settlePorts
       { State.judgeNearFull { s with
           writer := { s.writer with log := some { l with tail := newTail.toNat, used := 0 } } } with
         receipt := Safety.takenNothingQueued s seq } s)) ∧
     (lastSeq + 1 ≠ l.nextSeq → exec (.exported seq 0 lastSeq newTail) s =
       .next (State.settlePorts (Safety.refused s seq .badExport) s))) ∧
  ((∀ (s : State) (seq : Half) (lastSeq newTail : Word) (l : LogState),
     Safety.AtHandler s → s.writer.log = some l → newTail.toNat ≠ l.head →
     let readable := newTail.toNat < s.cfg.logSize ∧
       (newTail.toNat + s.cfg.logSize - l.tail) % s.cfg.logSize < l.used
     (readable → exec (.exported seq 0 lastSeq newTail) s = .next (State.settlePorts
       { s with
         assembler := { s.assembler with
           handling := some { seq := seq, kind := .exported, rsv := 0, body := [lastSeq, newTail] } }
         arbiter := { s.arbiter with reader := s.arbiter.reader ++ [.exportCheck] } } s)) ∧
     (¬readable → exec (.exported seq 0 lastSeq newTail) s =
       .next (State.settlePorts (Safety.refused s seq .badExport) s))) ∧
   (∀ (s : State) (seq : Half) (rsv : BitVec 7) (lastSeq newTail : Word), Safety.AtHandler s → rsv ≠ 0 →
     exec (.exported seq rsv lastSeq newTail) s =
       .next (State.settlePorts (Safety.refused s seq .badField) s)))

/-- The export check's read completes (R138, R139, R140): the report in handling is taken when the word
carries the marker and the tag of s + 1, moving the tail and lowering the used count by the words passed,
and refused BAD_EXPORT on another word or on FAULT; then the waiting report goes to its handler (R102). -/
def Obligations.ExportCheckDecides : Prop :=
  ∀ (s : State) (seq : Half) (lastSeq newTail w : Word) (m : MemAnswer) (l : LogState),
    s.arbiter.owner = some (.reader .exportCheck) → s.writer.log = some l →
    s.assembler.handling =
      some { seq := seq, kind := .exported, rsv := 0, body := [lastSeq, newTail] } →
    newTail.toNat ≠ l.head → newTail.toNat < s.cfg.logSize →
    (newTail.toNat + s.cfg.logSize - l.tail) % s.cfg.logSize < l.used →
    let u := Safety.freed s
    let fits := bits w 31 24 = 0x5C ∧ w.extractLsb' 0 15 = (lastSeq + 1).extractLsb' 0 15
    let refusal := exec (.exportCheckRead m) s =
      .next (State.settlePorts (Safety.refused u seq .badExport).releaseWaiting s)
    (m = .fault → refusal) ∧
    (s.memRead m (s.cfg.logBase + 4 * newTail.toNat) = some w → ¬fits → refusal) ∧
    (s.memRead m (s.cfg.logBase + 4 * newTail.toNat) = some w → fits →
      exec (.exportCheckRead m) s = .next (State.settlePorts (State.releaseWaiting
        { State.judgeNearFull { u with
            writer := { u.writer with
              log := some { l with
                tail := newTail.toNat
                used := l.used - (newTail.toNat + s.cfg.logSize - l.tail) % s.cfg.logSize } } } with
          receipt := Safety.takenNothingQueued s seq }) s))

/-- A header fed to the assembler (R96, R98): the report under assembly, if any, is refused OVERTAKEN; then a
known kind with a body length in its range is collected for 2 s from now, and any other header is refused
BAD_HEADER. A word fed behind a header (R97, R99): collected at the expected offset, judged at the check
word's, OUT_OF_ORDER at any other; ignored while the assembler is IDLE. The kinds that a header's bits 15 to
12 code (R214) and the body lengths of each (R94). -/
def Obligations.AssemblerFeeds : Prop :=
  (∀ (s : State) (h : Word),
     let u : State := match s.assembler.collecting with
       | none => s
       | some c => Safety.refused { s with assembler := { s.assembler with collecting := none } }
           (c.header.extractLsb' 16 16) .overtaken
     (∀ k, kindOfCode (bits h 15 12) = some k → lengthInRange k (bits h 4 0) = true →
       s.clock.seconds < 4294967293 →
       s.clock.sub ≤ 63 → s.feed 0 h = { u with
         assembler := { u.assembler with
           collecting := some
             { header := h, kind := k, words := []
               deadline := s.clock.seconds * 64 + s.clock.sub + 128 } } }) ∧
     ((∀ k, kindOfCode (bits h 15 12) = some k → lengthInRange k (bits h 4 0) = false) →
       s.feed 0 h = Safety.refused u (h.extractLsb' 16 16) .badHeader)) ∧
  (∀ (s : State) (offset : Nat) (w : Word), offset ≠ 0 →
     (s.assembler.collecting = none → s.feed offset w = s) ∧
     (∀ c, s.assembler.collecting = some c →
       let idle : State := { s with assembler := { s.assembler with collecting := none } }
       let seq := c.header.extractLsb' 16 16
       let expected := c.words.length + 1
       let atCheck := offset = bits c.header 4 0 + 1
       let correct := w.extractLsb' 16 16 = seq ∧
         w.extractLsb' 0 16 = spanCheck (c.header :: c.words)
       (offset ≠ expected → s.feed offset w = Safety.refused idle seq .outOfOrder) ∧
       (offset = expected → ¬atCheck → s.feed offset w = { s with
         assembler := { s.assembler with collecting := some { c with words := c.words ++ [w] } } }) ∧
       (offset = expected → atCheck → ¬correct →
         s.feed offset w = Safety.refused idle seq .checkFailed) ∧
       (offset = expected → atCheck → correct → s.feed offset w = idle.complete
         { seq := seq, kind := c.kind, rsv := c.header.extractLsb' 5 7, body := c.words }))) ∧
  (∀ code n : Nat,
     let kind (k : Nat) (r : ReportKind) (lengths : List Nat) :=
       kindOfCode k = some r ∧ (lengthInRange r n = true ↔ n ∈ lengths)
     kind 1 .reading [3, 5, 7, 9] ∧ kind 2 .load [3] ∧ kind 3 .move [3] ∧ kind 4 .handover [2, 3] ∧
     kind 5 .withdraw [2] ∧ kind 6 .stop [1] ∧ kind 7 .exported [2] ∧ kind 8 .time [2] ∧
     kind 9 .query [2] ∧ (code = 0 ∨ 10 ≤ code → kindOfCode code = none))

/-- A report-window write whose memory write completes (R93, R148, R154): OK stores the word, feeds it
and answers OK; FAULT feeds nothing and answers ERROR. -/
def Obligations.WindowWriteFeeds : Prop :=
  ∀ (s : State) (a : HostAccess) (offset : Nat) (m : MemAnswer),
    Safety.AtMemory s a (.windowWrite offset) →
    let u := Safety.written (Safety.freed s) m (a.addr.toNat / 4 * 4) a.data
    (m ≠ .fault → exec (.reportWindowWrite m) s =
      .next (State.settlePorts (Safety.answered (u.feed offset a.data) a .writeOk) s)) ∧
    (m = .fault → exec (.reportWindowWrite m) s =
      .next (State.settlePorts (Safety.rejected u a .memoryFault) s))

/-- When the chill clock has reached the completion deadline the report is refused TIMED_OUT and the
assembler is IDLE (R101). -/
def Obligations.AssemblyTimesOut : Prop :=
  ∀ (s : State) (c : Collecting), s.assembler.collecting = some c → s.supply.part ≠ .retain →
    c.deadline ≤ s.clock.seconds * 64 + s.clock.sub →
    exec .timedOut s = .next (State.settle (Safety.refused
      { s with assembler := { s.assembler with collecting := none } }
      (c.header.extractLsb' 16 16) .timedOut) s)

/-- A narrow write to the report window at an idle port (R100, R153): ERROR without a memory access, an
access error of reason NARROW_WINDOW (MISALIGNED if it is misaligned, when the report stays), and the
report under assembly refused NARROW_WRITE. -/
def Obligations.NarrowWindowRefused : Prop :=
  ∀ (s : State) (c : Setup) (offset : BitVec 7) (width : NarrowWidth) (data : Word),
    s.setup.inForce = some c → s.port.current = none → s.port.behind = [] →
    s.supply.part = .running ∨ s.supply.part = .scanning →
    s.assembler.waiting = none → c.regionOk = true → c.capacity ≤ 16 →
    let a : HostAccess :=
      { addr := BitVec.ofNat 24 (c.windowBase + offset.toNat), width := width.width, dir := .write
        data := data }
    let aligned := width = .one ∨ offset.toNat % 2 = 0
    (aligned → s.assembler.collecting = none →
      exec (.narrowWindowWrite offset width data) s =
        .next (State.settlePorts (Safety.rejected s a .narrowWindow) s)) ∧
    (∀ x, aligned → s.assembler.collecting = some x →
      exec (.narrowWindowWrite offset width data) s =
        .next (State.settlePorts (Safety.rejected (Safety.refused
          { s with assembler := { s.assembler with collecting := none } }
          (x.header.extractLsb' 16 16) .narrowWrite) a .narrowWindow) s)) ∧
    (¬aligned → exec (.narrowWindowWrite offset width data) s =
      .next (State.settlePorts (Safety.rejected s a .misaligned) s))

/-! ## Memory, the upstream port and the arbiter (chapter 07, R187, R189) -/

/-- A whole word stored at a word address reads back, its most significant byte at the lowest address, and
every other byte reads as before (R144, R147). The canonical form that memory has in every state
(Safety.Bounds) is the premise, and is kept (the model's own, log 1). -/
def Obligations.WordStored : Prop :=
  ∀ (m : Mem) (a : Nat) (w : Word), m.wf = true →
    (m.writeWord a w).readWord a = w ∧
    (m.writeWord a w).readByte a = w.extractLsb' 24 8 ∧
    (m.writeWord a w).readByte (a + 1) = w.extractLsb' 16 8 ∧
    (m.writeWord a w).readByte (a + 2) = w.extractLsb' 8 8 ∧
    (m.writeWord a w).readByte (a + 3) = w.extractLsb' 0 8 ∧
    (∀ b, b < a ∨ a + 4 ≤ b → (m.writeWord a w).readByte b = m.readByte b) ∧
    (m.writeWord a w).wf = true

/-- A host access arrives behind those the port has, and in RETAIN none is taken (R142, R143). The first
four tests of its judgement (R145, R153), and a host read (R147): as it arrives at an idle port, and as one
that waited, when the port carries none. -/
def Obligations.HostAccessTests : Prop :=
  ∀ (s : State) (a : HostAccess),
    let held : State := { s with port := { s.port with current := some { acc := a, phase := .held } } }
    let starting := ∃ v, s.supply.part = .starting v
    let waits := a.dir = .write ∧ s.assembler.waiting ≠ none ∧
      ∃ c, s.setup.inForce = some c ∧ c.windowBase ≤ a.addr.toNat ∧ a.addr.toNat < c.windowBase + 128
    let aligned := a.addr.toNat % a.width.bytes = 0
    let beyond := ∃ c, s.setup.inForce = some c ∧ c.capacity * 1048576 ≤ a.addr.toNat
    (s.supply.part = .retain → exec (.hostAccess a) s = .next s) ∧
    (s.supply.part ≠ .retain → exec (.hostAccess a) s = .next (State.settlePorts
      { s with port := { s.port with behind := s.port.behind ++ [a] } } s)) ∧
    (s.port.current = none → s.port.behind = [] →
      (starting → Safety.judgedAs s a held) ∧
      (s.supply.part = .opened ∨ s.supply.part = .scanning ∨ s.supply.part = .running →
        (waits → Safety.judgedAs s a held) ∧
        (¬waits → ¬aligned → Safety.judgedAs s a (Safety.rejected s a .misaligned)) ∧
        (¬waits → aligned → beyond → Safety.judgedAs s a (Safety.rejected s a .beyondCapacity)) ∧
        (aligned → ¬beyond → a.dir = .read →
          Safety.judgedAs s a (Safety.waitsAtMemory s a .read))))

/-- The fifth test of R145: a host write by the region that holds it (R146, R148 to R152). The setup block
passes it only while it is writable (R150); the status block and the log never do. A report that waits holds
back a write into the report window alone (R145). In OPEN, with no setup in force, the setup block is
writable while no load is in flight and every other address is plain memory (R150, R176). -/
def Obligations.HostWriteByRegion : Prop :=
  (∀ (s : State) (a : HostAccess) (c : Setup), s.port.current = none → s.port.behind = [] →
     s.supply.part = .scanning ∨ s.supply.part = .running → s.setup.inForce = some c →
     a.dir = .write → a.addr.toNat % a.width.bytes = 0 → a.addr.toNat < c.capacity * 1048576 → c.regionOk = true →
     let x := a.addr.toNat
     let treated (job : HostJob) := Safety.judgedAs s a (Safety.waitsAtMemory s a job)
     let writable := s.setup.load = none ∧ s.supply.part = .running ∧
       ∀ e ∈ s.accounts, e = .free
     let plain := 256 ≤ x ∧ (x < c.statusBase ∨ c.statusBase + 192 ≤ x) ∧
       (x < c.windowBase ∨ c.windowBase + 128 ≤ x) ∧ (x < c.logBase ∨ c.logBase + 4 * c.logSize ≤ x)
     (x < 256 → writable → a.width = .four → treated .write) ∧
     (x < 256 → writable → a.width ≠ .four → treated .rmwRead) ∧
     (x < 256 → ¬writable → treated (.suppressed .setupLocked)) ∧
     (c.statusBase ≤ x → x < c.statusBase + 192 → ¬(x = c.statusBase + 188 ∧ a.width = .four) →
       treated (.suppressed .statusProtected)) ∧
     (s.assembler.waiting = none → c.windowBase ≤ x → x < c.windowBase + 128 → a.width = .four →
       treated (.windowWrite ((x - c.windowBase) / 4))) ∧
     (c.logBase ≤ x → x < c.logBase + 4 * c.logSize → treated (.suppressed .logProtected)) ∧
     (plain → a.width = .four → treated .write) ∧ (plain → a.width ≠ .four → treated .rmwRead)) ∧
  (∀ (s : State) (a : HostAccess), s.port.current = none → s.port.behind = [] →
     s.supply.part = .opened → s.setup.inForce = none → a.dir = .write →
     a.addr.toNat % a.width.bytes = 0 →
     let treated (job : HostJob) := Safety.judgedAs s a (Safety.waitsAtMemory s a job)
     (a.addr.toNat < 256 → s.setup.load ≠ none → treated (.suppressed .setupLocked)) ∧
     (256 ≤ a.addr.toNat ∨ s.setup.load = none → a.width = .four → treated .write) ∧
     (256 ≤ a.addr.toNat ∨ s.setup.load = none → a.width ≠ .four → treated .rmwRead))

/-- A host read that completes OK answers the bytes it names, lowest address first, and changes nothing else
(R147); on FAULT it answers ERROR (R154). A memory that went wrong unseen returns another word (log 2), of
which the same bytes are answered. A full-word host write that completes OK stores its word and answers OK
(R148); to setup word 63 with no account aboard it first raises a load: flag, read position 0, IN_FLIGHT,
first read asked for (R150, R166). The LOAD_TRIGGER command is that completion (log 8). FAULT is answered
ERROR (R154). -/
def Obligations.HostAccessCompletes : Prop :=
  (∀ (s : State) (a : HostAccess), Safety.AtMemory s a .read → a.addr.toNat % a.width.bytes = 0 →
     exec (.passThroughRead .ok) s = .next (State.settlePorts (Safety.answered (Safety.freed s) a
       (.readOk ((List.range a.width.bytes).map (fun i => s.mem.readByte (a.addr.toNat + i))))) s) ∧
     (∀ w : Word, exec (.passThroughRead (.corrupt w)) s =
       .next (State.settlePorts (Safety.answered (Safety.freed s) a
         (.readOk ((List.range a.width.bytes).map
           (fun i => w.extractLsb' (24 - 8 * (a.addr.toNat % 4 + i)) 8)))) s)) ∧
     exec (.passThroughRead .fault) s =
       .next (State.settlePorts (Safety.rejected (Safety.freed s) a .memoryFault) s)) ∧
  (∀ (s : State) (a : HostAccess) (m : MemAnswer), Safety.AtMemory s a .write →
     let u := Safety.written (Safety.freed s) m (a.addr.toNat / 4 * 4) a.data
     let triggers := a.addr.toNat = 252 ∧ ∀ e ∈ s.accounts, e = Entry.free
     let loading (u : State) : State := { u with
       setup := { u.setup with load := some [], lastResult := .inFlight }
       arbiter := { u.arbiter with reader := u.arbiter.reader ++ [.setupLoader] } }
     (m ≠ .fault → ¬triggers → exec (.passThroughWrite m) s =
       .next (State.settlePorts (Safety.answered u a .writeOk) s)) ∧
     (m ≠ .fault → triggers → exec (.passThroughWrite m) s =
       .next (State.settlePorts (Safety.answered (loading u) a .writeOk) s)) ∧
     (m = .ok → triggers → exec .loadTrigger s =
       .next (State.settlePorts (Safety.answered (loading u) a .writeOk) s)) ∧
     (m = .fault → exec (.passThroughWrite m) s =
       .next (State.settlePorts (Safety.rejected u a .memoryFault) s)))

/-- A read-modify-write (R149, R158): its read merges the host's bytes into the word and asks for the
write; its write stores the word, ends the lockout and answers OK; a FAULT of either ends the lockout and
answers ERROR. -/
def Obligations.ReadModifyWrite : Prop :=
  ∀ (s : State) (a : HostAccess) (merged x : Word) (m : MemAnswer),
    let unlocked (u : State) : State := { u with arbiter := { u.arbiter with lockout := none } }
    let named (k : Nat) := a.addr.toNat % 4 ≤ k ∧ k < a.addr.toNat % 4 + a.width.bytes
    let read (m : MemAnswer) (byte : Nat → Byte) := ∃ w : Word,
      exec (.rmwReadDone m) s =
        .next (State.settlePorts (Safety.waitsAtMemory (Safety.freed s) a (.rmwWrite w)) s) ∧
      ∀ k < 4, (named k → byteOf w k = byteOf a.data k) ∧ (¬named k → byteOf w k = byte k)
    let u := unlocked (Safety.written (Safety.freed s) m (a.addr.toNat / 4 * 4) merged)
    (Safety.AtMemory s a .rmwRead →
      read .ok (fun k => s.mem.readByte (a.addr.toNat / 4 * 4 + k)) ∧
      read (.corrupt x) (byteOf x) ∧
      exec (.rmwReadDone .fault) s = .next (State.settlePorts
        (Safety.rejected (unlocked (Safety.freed s)) a .memoryFault) s)) ∧
    (Safety.AtMemory s a (.rmwWrite merged) →
      (m ≠ .fault → exec (.rmwWriteDone m) s =
        .next (State.settlePorts (Safety.answered u a .writeOk) s)) ∧
      (m = .fault → exec (.rmwWriteDone m) s =
        .next (State.settlePorts (Safety.rejected u a .memoryFault) s)))

/-- A suppressed write (R151): whatever its read's outcome, ERROR, one protect violation, the cause
PROTECT_VIOLATION, the access kept with its reason, and no byte of memory changed. -/
def Obligations.SuppressedWriteRefused : Prop :=
  ∀ (s : State) (a : HostAccess) (reason : RejectReason) (m : MemAnswer),
    Safety.AtMemory s a (.suppressed reason) →
    exec (.suppressedWrite m) s = .next (State.settlePorts (Safety.answered
      { Safety.freed s with
        alert := { s.alert with
          latched := s.alert.latched ||| Cause.protectViolation.bit
          counters := { s.alert.counters with
            protectViolations := min (s.alert.counters.protectViolations + 1) 65535 } }
        rejected := some
          { addr := a.addr, width := a.width, dir := a.dir, reason := reason
            time := s.clock.seconds } } a .error) s)

/-- The grant of a free memory port in the order of R157, with the fairness count, the lockout a
read-modify-write or the log writer takes (R158) and the snapshot of a rewrite's first grant (R179). -/
def Obligations.ArbiterGrants : Prop :=
  ∀ s : State,
    let b := s.arbiter
    let internal := b.writer = true ∨ b.reader ≠ [] ∨ b.status = true
    let granted (x : Arbiter) : State := { s with arbiter := x }
    (b.owner ≠ none → s.arbitrate = s) ∧
    (b.owner = none → b.lockout = some .upstream → b.upstream = true →
      s.arbitrate = granted { b with owner := some .upstream, upstream := false }) ∧
    (b.owner = none → b.lockout = some .writer → b.writer = true →
      s.arbitrate = granted { b with owner := some .writer, writer := false }) ∧
    (b.owner = none → b.lockout = some .upstream → b.upstream = false → s.arbitrate = s) ∧
    (b.owner = none → b.lockout = some .writer → b.writer = false → s.arbitrate = s) ∧
    (b.owner = none → b.lockout = none → b.upstream = true → b.fairness < 8 →
      ∃ f, (internal → f = b.fairness + 1) ∧ (¬internal → f = 0) ∧
        ((∃ a, s.port.current = some { acc := a, phase := .atMemory .rmwRead }) → s.arbitrate =
          granted { b with
            owner := some .upstream, upstream := false, lockout := some .upstream, fairness := f }) ∧
        ((¬∃ a, s.port.current = some { acc := a, phase := .atMemory .rmwRead }) → s.arbitrate =
          granted { b with owner := some .upstream, upstream := false, fairness := f })) ∧
    (b.owner = none → b.lockout = none → b.upstream = false ∨ 8 ≤ b.fairness →
      (b.writer = true → s.arbitrate = granted { b with
        owner := some .writer, lockout := some .writer, writer := false, fairness := 0 }) ∧
      (∀ c rest, b.writer = false → b.reader = c :: rest → s.arbitrate =
        granted { b with owner := some (.reader c), reader := rest, fairness := 0 }) ∧
      (b.writer = false → b.reader = [] → b.status = true →
        let u := granted { b with owner := some .status, status := false, fairness := 0 }
        (s.status.rewrite = some .requested → s.arbitrate = { u with
          status :=
            { gen := s.status.gen + 1, demand := false
              rewrite := some (.writing (s.picture (s.status.gen + 1)) 0) } }) ∧
        (s.status.rewrite ≠ some .requested → s.arbitrate = u)) ∧
      (¬internal → s.arbitrate = s))

/-- A taken acknowledge (R187, R189) at an idle port: named causes cleared, a HALTED writer IDLE when
WRITER_FAULT is named, the five counters 0 with the flag, and the echo. It answers OK without a memory
access, and CLEAR_COUNTERS is the acknowledge with the flag set. -/
def Obligations.AcknowledgeTaken : Prop :=
  ∀ (s : State) (c : Setup) (data : Word) (causes : BitVec 13),
    s.setup.inForce = some c → s.port.current = none → s.port.behind = [] →
    s.supply.part = .running ∨ s.supply.part = .scanning → c.regionOk = true → c.capacity ≤ 16 →
    let after (data : Word) (named : BitVec 13) (clear : Bool) : State :=
      Safety.answered
        { s with
          alert := { s.alert with
            latched := s.alert.latched &&& ~~~ named
            counters := if clear then
                { refusedReports := 0, protectViolations := 0, accessErrors := 0
                  missedReadings := 0, lostRecords := 0 }
              else s.alert.counters
            echo := some { clear := clear, causes := named } }
          writer := { s.writer with
            state := if named.getLsbD 3 = true ∧ s.writer.state = .halted then .idle
              else s.writer.state }
          status := { s.status with demand := true } }
        { addr := BitVec.ofNat 24 (c.statusBase + 188), width := .four, dir := .write, data := data }
        .writeOk
    exec (.acknowledge data) s = .next (State.settlePorts
      (after data (data.extractLsb' 0 13) (data.getLsbD 31)) s) ∧
    exec (.clearCounters causes) s = .next (State.settlePorts
      (after (1#1 ++ 0#18 ++ causes) causes true) s)

/-! ## The log writer (chapter 06) -/

/-- The front entry is taken (R131): by an IDLE writer at WRITER_TAKE_ENTRY, by a WAITING_SPACE one at
SPACE_FOUND. With room in the log the record is assembled and its first word asked for; an IDLE writer
without room enters WAITING_SPACE, which latches LOG_FULL (R125). -/
def Obligations.WriterTakesEntry : Prop :=
  ∀ (s : State) (e : QEntry) (rest : List QEntry) (l : LogState),
    s.supply.part = .running → s.queue.entries = e :: rest → s.writer.log = some l →
    let length := e.body.length + 4
    let fits := length ≤ s.cfg.logSize - l.used
    let openSeq : Option Word := match e.slot with
      | none => none
      | some slot => match s.accounts.getD slot .free with
        | .closing _ (some o) _ => o.recordSeq
        | _ => none
    let covered : List Word :=
      [0x5C#8 ++ BitVec.ofNat 4 e.body.code ++ BitVec.ofNat 5 e.body.length
          ++ l.nextSeq.extractLsb' 0 15,
        l.nextSeq, BitVec.ofNat 32 e.time] ++ e.body.words openSeq
    let chain := feedWords s.writer.chain covered
    let assembled : State :=
      { s with
        writer := { s.writer with
          state := .writing (covered ++ [spanCheck covered ++ chain]) chain 0 }
        arbiter := { s.arbiter with writer := true } }
    (s.writer.state = .idle → fits →
      exec .writerTakeEntry s = .next (State.settlePorts assembled s)) ∧
    (s.writer.state = .idle → ¬fits → exec .writerTakeEntry s = .next (State.settlePorts
      { s with
        writer := { s.writer with state := .waitingSpace }
        alert := { s.alert with latched := s.alert.latched ||| Cause.logFull.bit } } s)) ∧
    (s.writer.state = .waitingSpace → fits →
      exec .spaceFound s = .next (State.settlePorts assembled s)) ∧
    (s.writer.state = .waitingSpace → ¬fits →
      exec .spaceFound s = .next (State.settlePorts s s))

/-- Every record the writer assembles is one that the log scan finds valid, with its own length, sequence and
chain value (R126 to R128, R208). The code, the body length and the body words of each record kind (R127,
R215), `openSeq` being the opening record sequence of a CLOSED record, which the writer reads at assembly
(R26). -/
def Obligations.RecordsAreValid : Prop :=
  (∀ (e : QEntry) (seq : Word) (openSeq : Option Word) (committed : Half) (position : Nat),
     let covered := coveredWords e seq openSeq
     let record := covered ++ [trailerWord committed covered]
     record.length = e.body.length + 4 ∧ isCandidate (record.getD 0 0) = true ∧
     candidateLength (record.getD 0 0) = record.length ∧ validRecord record = true ∧
     noteOf position record =
       { position := position, seq := seq, length := e.body.length + 4
         chain := feedWords committed covered }) ∧
  (∀ (reference : BitVec 64) (seq stop check chain : Half) (slot k j x y z u v : Nat) (d : Verdict)
     (e : Option Effective) (a b : Option Int) (p q r : Bool) (openTime : Option Nat) (t : Totals)
     (receiver : Option Word) (high low highest : Word) (openSeq : Option Word),
     let n (i : Nat) : Word := BitVec.ofNat 32 i
     let temp (i : Option Int) : Half := match i with
       | some w => BitVec.ofInt 16 w
       | none => 0x8000#16
     let ref : List Word := [reference.extractLsb' 32 32, reference.extractLsb' 0 32]
     let placement : Word := BitVec.ofNat 8 slot ++ BitVec.ofNat 8 k ++ BitVec.ofNat 8 j ++ 0#8
     let verdict (flags : Half) : Word := (match d with
       | .clean => 0x0000#16
       | .unproven .gap => 0x0101#16
       | .unproven .staging => 0x0102#16
       | .unproven .recordLost => 0x0103#16
       | .broken .hardLimit => 0x0204#16
       | .broken .dose => 0x0205#16
       | .broken .duration => 0x0206#16) ++ flags
     let opening : Word := temp (e.map Effective.warm) ++ temp (e.map Effective.cold)
     let body (c : RecordBody) (code : Nat) (ws : List Word) :=
       c.code = code ∧ c.length = ws.length ∧ c.words openSeq = ws
     let closed : List Word := ref ++
       [verdict (0#13 ++ BitVec.ofBool receiver.isSome ++ BitVec.ofBool openSeq.isSome
           ++ BitVec.ofBool openTime.isSome),
         (openTime.map n).getD 0xFFFFFFFF#32, openSeq.getD 0xFFFFFFFF#32, n t.breakDose,
         n t.allowanceDose, n t.gap, 0#24 ++ BitVec.ofNat 8 t.excursions,
         temp t.peakWarm ++ temp t.peakCold] ++ receiver.toList
     let doubt (raised : Bool) (c : DoubtCause) (code : BitVec 8) := body (.doubt k raised c a b) 9
       [0#16 ++ BitVec.ofNat 8 k ++ code, 0#16 ++ temp a, 0#16 ++ temp b]
     body (.loaded reference slot k j seq) 0 (ref ++ [placement, 0#16 ++ seq]) ∧
     body (.opened reference slot k j d e) 1 (ref ++ [placement, verdict 0, opening]) ∧
     body (.excursion reference x y z u v p q r) 2 (ref ++ [n x, n y, 0#16 ++ BitVec.ofNat 16 z, n u,
       n v, 0#29 ++ BitVec.ofBool r ++ BitVec.ofBool q ++ BitVec.ofBool p]) ∧
     body (.moved reference k j) 3 (ref ++ [0#16 ++ BitVec.ofNat 8 k ++ BitVec.ofNat 8 j]) ∧
     body (.verdict reference d x y) 4 (ref ++ [verdict 0, n x, n y]) ∧
     body (.closed reference d openTime t receiver) 5 closed ∧
     body (.withdrawn reference) 6 ref ∧
     body (.gap k x y .missed) 7 [0#24 ++ BitVec.ofNat 8 k, n x, n y, 1] ∧
     body (.gap k x y .power) 7 [0#24 ++ BitVec.ofNat 8 k, n x, n y, 2] ∧
     body (.stop stop true) 8 [stop ++ 1#16] ∧ body (.stop stop false) 8 [stop ++ 2#16] ∧
     doubt true .disagree 0x11 ∧ doubt true .absent 0x12 ∧ doubt false .disagree 0x21 ∧
     doubt false .absent 0x22 ∧
     body (.loss x y z) 10 [n x, n y, n z] ∧ body (.power x y) 11 [n x, n y] ∧
     body (.reset x) 12 [n x] ∧
     body (.coldStart (some (highest, chain)) x .none) 13 [highest, 0#16 ++ chain, n x, 1] ∧
     body (.coldStart (some (highest, chain)) x .lost) 13 [highest, 0#16 ++ chain, n x, 2] ∧
     body (.coldStart none 0 .none) 13 [0xFFFFFFFF#32, 0xFFFFFFFF#32, 0, 1] ∧
     body (.coldStart none 0 .lost) 13 [0xFFFFFFFF#32, 0xFFFFFFFF#32, 0, 2] ∧
     body (.setup check x y false) 14 [0#16 ++ check, n x, n y, 0] ∧
     body (.setup check x y true) 14 [0#16 ++ check, n x, n y, 1] ∧
     body (.time high low) 15 [high, low])

/-- A word of the record has been written (R132): the next word, or the read-back, is asked for under the
lockout. A FAULT halts the writer (R134): lockout ended, record discarded, WRITER_FAULT latched, and the
pointers, the sequence, the chain and the queue as they were. -/
def Obligations.RecordWordWritten : Prop :=
  ∀ (s : State) (record : List Word) (chain : Half) (n : Nat) (l : LogState) (m : MemAnswer),
    s.arbiter.owner = some .writer → s.writer.state = .writing record chain n →
    s.writer.log = some l →
    let u := Safety.written (Safety.freed s) m
      (s.cfg.logBase + 4 * ((l.head + n) % s.cfg.logSize)) (record.getD n 0)
    let goesOn (state : WriterState) := exec (.writerWordWrite m) s = .next (State.settlePorts
      { u with
        writer := { u.writer with state := state }
        arbiter := { u.arbiter with writer := true } } s)
    (m ≠ .fault → n + 1 < record.length → goesOn (.writing record chain (n + 1))) ∧
    (m ≠ .fault → record.length ≤ n + 1 → goesOn (.verifying record chain)) ∧
    (m = .fault → exec (.writerWordWrite m) s = .next (State.settlePorts
      { u with
        writer := { u.writer with state := .halted }
        arbiter := { u.arbiter with lockout := none }
        alert := { u.alert with latched := u.alert.latched ||| Cause.writerFault.bit } } s))

/-- The trailer read back equal verifies the record and commits it (R133): pointers, sequence and chain; the
entry leaves and a pending loss puts its LOSS record in the freed place (R120); the recorded-through mark
(R108); the account of an OPENED or CLOSED record (R17, R28); the lockout; LOG_NEAR_FULL (R124). A read-back
that ends FAULT or differs from the assembled trailer halts the writer (R134): nothing is committed. -/
def Obligations.ReadBackDecides : Prop :=
  (∀ (s : State) (record : List Word) (chain : Half) (l : LogState) (m : MemAnswer) (w : Word)
     (e : QEntry) (rest : List QEntry),
     s.arbiter.owner = some .writer → s.writer.state = .verifying record chain →
     s.writer.log = some l → s.queue.entries = e :: rest →
     s.memRead m (s.cfg.logBase + 4 * ((l.head + (record.length - 1)) % s.cfg.logSize)) = some w →
     w = record.getLastD 0 →
     let opened (x : Entry) : Entry := match x with
       | .tracked c t => .tracked c { t with
           opening := { time := t.opening.time, recordSeq := some l.nextSeq } }
       | .closing c (some o) t => .closing c (some { time := o.time, recordSeq := some l.nextSeq }) t
       | .closing c none t => .closing c none t
       | .staged c d => .staged c d
       | .free => .free
     let accounts : List Entry := match e.slot, e.body with
       | some slot, .opened .. => s.accounts.set slot (opened (s.accounts.getD slot .free))
       | some slot, .closed .. => s.accounts.set slot .free
       | _, _ => s.accounts
     let queue : EvidenceQueue := match s.queue.loss with
       | none => { entries := rest, loss := none }
       | some p =>
         { entries := { time := s.clock.seconds, slot := none
                        body := .loss p.count p.first p.last } :: rest
           loss := none }
     let receipt : Receipt := match s.receipt.mark with
       | none => s.receipt
       | some k =>
         if k.index = 0 then { s.receipt with recordedThrough := some k.seq, mark := none }
         else if s.queue.loss = none then
           { s.receipt with mark := some { index := k.index - 1, seq := k.seq } }
         else s.receipt
     exec (.trailerReadBack m) s = .next (State.settlePorts (State.judgeNearFull
       { s with
         writer := { s.writer with
           state := .idle
           log := some
             { head := (l.head + record.length) % s.cfg.logSize, tail := l.tail
               used := l.used + record.length, nextSeq := l.nextSeq + 1 }
           chain := chain }
         queue := queue
         receipt := receipt
         accounts := accounts
         arbiter := { s.arbiter with owner := none, lockout := none } }) s)) ∧
  (∀ (s : State) (record : List Word) (chain : Half) (l : LogState) (m : MemAnswer),
     s.arbiter.owner = some .writer → s.writer.state = .verifying record chain →
     s.writer.log = some l →
     s.memRead m (s.cfg.logBase + 4 * ((l.head + (record.length - 1)) % s.cfg.logSize)) ≠
       some (record.getLastD 0) →
     exec (.trailerReadBack m) s = .next (State.settlePorts
       { s with
         writer := { s.writer with state := .halted }
         arbiter := { s.arbiter with owner := none, lockout := none }
         alert := { s.alert with latched := s.alert.latched ||| Cause.writerFault.bit } } s))

/-! ## Setup and status (chapters 08 and 09) -/

/-- The tests of a working copy in the order of R169: the first that fails gives the reason, and a block
that passes them all is accepted. The tests themselves are those of R163 to R165, R170 and R171, the
reserved words and bits those of R165 and R217. -/
def Obligations.SetupValidated : Prop :=
  ∀ (s : State) (c : Setup), c.words.length = 64 →
    let apart (b1 n1 b2 n2 : Nat) := b1 + n1 ≤ b2 ∨ b2 + n2 ≤ b1
    let ends := c.capacity * 1048576
    let logBytes := 4 * c.logSize
    let marker := c.word 0 = 0x5E480001#32
    let check := c.word 63 = 0#16 ++ spanCheck (c.words.take 63)
    let capacity := 1 ≤ c.capacity ∧ c.capacity ≤ 16
    let region := c.statusBase % 4 = 0 ∧ c.windowBase % 4 = 0 ∧ c.logBase % 4 = 0 ∧ 4096 ≤ c.logSize ∧
      c.statusBase + 192 ≤ ends ∧ c.windowBase + 128 ≤ ends ∧ c.logBase + logBytes ≤ ends ∧
      apart c.statusBase 192 c.windowBase 128 ∧ apart c.statusBase 192 c.logBase logBytes ∧
      apart c.windowBase 128 c.logBase logBytes ∧ 256 ≤ c.statusBase ∧ 256 ≤ c.windowBase ∧
      256 ≤ c.logBase ∧ c.nearFull ≤ c.logSize
    let timing := 1 ≤ c.count ∧ c.count ≤ 4 ∧ 10 ≤ c.period ∧ c.period ≤ 600 ∧ 1 ≤ c.window ∧
      4 * c.window ≤ c.period ∧ 60 ≤ c.gapLimit ∧ c.gapLimit ≤ 3600 ∧
      c.period + c.window < c.gapLimit ∧ 60 ≤ c.stagingLimit ∧ c.stagingLimit ≤ 7200 ∧
      5 ≤ c.tolerance ∧ c.tolerance ≤ 50 ∧ 2 ≤ c.doubtCount ∧ c.doubtCount ≤ 15 ∧
      30 ≤ c.stopGrace ∧ c.stopGrace ≤ 3600 ∧ c.awayGrace ≤ 600 ∧ 60 ≤ c.defrostGrace ∧
      c.defrostGrace ≤ 3600 ∧ c.recovery ≤ 1800
    let band := (∃ k < 8, (c.band k).enabled = true) ∧ ∀ k < 8, (c.band k).enabled = true →
      -500 ≤ (c.band k).hardLow ∧ (c.band k).hardLow ≤ (c.band k).low ∧
      (c.band k).low ≤ (c.band k).high ∧ (c.band k).high ≤ (c.band k).hardHigh ∧
      (c.band k).hardHigh ≤ 700 ∧ 60 ≤ (c.band k).timeLimit ∧ (c.band k).timeLimit ≤ 86400
    let zero (i hi lo : Nat) := bits (c.word i) hi lo = 0
    let reserved := (∀ i, i = 14 ∨ i = 15 ∨ (56 ≤ i ∧ i ≤ 62) → c.word i = 0) ∧
      zero 1 31 5 ∧ zero 2 31 24 ∧ zero 3 31 24 ∧ zero 4 31 24 ∧ zero 5 31 23 ∧ zero 6 31 23 ∧
      zero 7 31 12 ∧ zero 7 7 3 ∧ zero 10 31 16 ∧ zero 13 31 13 ∧
      (∀ k < 8, zero (20 + 5 * k) 30 17) ∧ (∀ k < 4, c.count ≤ k → (c.word 7).getLsbD (8 + k) = false)
    let logFree := ∀ d, s.setup.inForce = some d → (c.logBase = d.logBase ∧ c.logSize = d.logSize) ∨
      ((∀ l, s.writer.log = some l → l.used = 0) ∧ s.queue.entries = [])
    (¬marker → s.validate c = some .marker) ∧
    (marker → ¬check → s.validate c = some .check) ∧
    (marker → check → ¬capacity → s.validate c = some .capacity) ∧
    (marker → check → capacity → ¬region → s.validate c = some .region) ∧
    (marker → check → capacity → region → ¬timing → s.validate c = some .timing) ∧
    (marker → check → capacity → region → timing → ¬band → s.validate c = some .band) ∧
    (marker → check → capacity → region → timing → band → ¬reserved →
      s.validate c = some .reserved) ∧
    (marker → check → capacity → region → timing → band → reserved → ¬logFree →
      s.validate c = some .logInUse) ∧
    (marker → check → capacity → region → timing → band → reserved → logFree → s.validate c = none)

/-- A read of a setup load (R167): each word that returns joins the working copy, the next being asked
for; the last one, or a FAULT, decides the load. Where that ends STARTING, a held access is judged under
the state entered (R142), and a reset input still asserted then acts, in the same step and with memory's
answers as operands (R205; DESIGN CHOICE, log 19). -/
def Obligations.SetupLoadReads : Prop :=
  ∀ (s : State) (copy : List Word) (m : MemAnswer) (held : ResetAnswers),
    s.arbiter.owner = some (.reader .setupLoader) → s.setup.load = some copy →
    let u := Safety.freed s
    let becomes (v : State) := exec (.setupLoadRead { answer := m, held := held }) s = .next v
    let decides (v : State) :=
      let w := State.settlePorts v s
      (s.supply.resetPin = false ∨ (∀ x, s.supply.part ≠ .starting x) → becomes w) ∧
      (∀ x, s.supply.resetPin = true → s.supply.part = .starting x →
        becomes (State.settlePorts (Safety.resetActed w held) w))
    (∀ w, s.memRead m (4 * copy.length) = some w → copy.length < 63 →
      becomes (State.settlePorts
        { u with
          setup := { u.setup with load := some (copy ++ [w]) }
          arbiter := { u.arbiter with reader := u.arbiter.reader ++ [.setupLoader] } } s)) ∧
    (∀ w, s.memRead m (4 * copy.length) = some w → copy.length = 63 →
      decides (u.decideLoad (u.validate { words := copy ++ [w] }) { words := copy ++ [w] })) ∧
    (m = .fault → decides (u.decideLoad (some .memoryFault) { words := copy }))

/-- The decision on a load (R172, R174, R175). Accepted in RUNNING: the setup in force, the log kept or
relocated (R173), compartments and cadence anew, a collection refused NOT_READY, LOG_NEAR_FULL judged,
one SETUP record and a full rewrite. Accepted elsewhere: SCANNING, the record held, the held access judged,
and then the first picture asked for (the order of R206's words, DEDUCED, log 37); the log scan starts behind
that picture (log 38). Rejected: only the result, the cause and, from the cold-start load, OPEN. -/
def Obligations.SetupDecided : Prop :=
  ∀ (s : State) (c : Setup),
    let cold := (List.range c.count).map (fun k => Compartment.cold (c.bFitted k))
    let rewritten (u : State) : State :=
      { u with
        status := { u.status with demand := true, rewrite := some .requested }
        arbiter := { u.arbiter with status := true } }
    (∀ d, s.supply.part = .running → s.setup.inForce = some d →
      let relocated := !(c.logBase == d.logBase && c.logSize == d.logSize)
      let u : State :=
        { s with
          setup := { s.setup with inForce := some c, lastResult := .accepted, load := none }
          compartments := cold
          writer := if relocated then
              { s.writer with
                log := s.writer.log.map (fun l => { l with head := 0, tail := 0, used := 0 })
                chain := 0xFFFF#16 }
            else s.writer
          cadence := { Cadence.fresh with lastSeq := s.cadence.lastSeq } }
      let ended : State := match s.assembler.collecting with
        | none => u
        | some x => Safety.refused { u with assembler := { u.assembler with collecting := none } }
            (x.header.extractLsb' 16 16) .notReady
      s.decideLoad none c = rewritten (ended.judgeNearFull.produce
        { time := s.clock.seconds, slot := none
          body := .setup ((c.word 63).extractLsb' 0 16) c.logBase c.logSize relocated })) ∧
    (s.supply.part ≠ .running → s.decideLoad none c = rewritten (State.pump
      { s with
        setup :=
          { inForce := some c, lastResult := .accepted, load := none, heldRecord := true }
        compartments := cold
        cadence := Cadence.fresh
        supply := { s.supply with part := .scanning } })) ∧
    (∀ r, s.decideLoad (some r) c =
      { s with
        setup := { s.setup with lastResult := .rejected r, load := none }
        supply := { s.supply with
          part := match s.supply.part with
            | .starting _ => .opened
            | p => p }
        alert := { s.alert with latched := s.alert.latched ||| Cause.setupRejected.bit } })

/-- While a demand stands and no rewrite is in progress the status updater asks for the port (R179); in OPEN
there is no status block and nothing is asked (R178). A status word has been written (R179, R181): words 0
to 45, then 47, then 46, one grant each; behind the last the rewrite is complete and a standing demand
begins the next; a FAULT abandons it and latches WRITER_FAULT, the log writer not being halted. In SCANNING
the end of the first picture starts the log scan with its first read (R206, R208; that the scan waits for
the whole picture, or for its abandonment, is DEDUCED, log 38). -/
def Obligations.StatusRewritten : Prop :=
  (∀ s : State,
     (s.setup.inForce ≠ none → s.supply.part = .scanning ∨ s.supply.part = .running →
       s.status.demand = true → s.status.rewrite = none →
       exec .statusRewrite s = .next (State.settlePorts
         { s with
           status := { s.status with rewrite := some .requested }
           arbiter := { s.arbiter with status := true } } s)) ∧
     (s.supply.part = .opened ∨ s.status.demand = false ∨ s.status.rewrite ≠ none →
       exec .statusRewrite s = .next (State.settlePorts s s))) ∧
  (∀ (s : State) (picture : List Word) (n : Nat) (m : MemAnswer), s.arbiter.owner = some .status →
     s.status.rewrite = some (.writing picture n) → n ≤ 47 →
     let word := if n = 46 then 47 else if n = 47 then 46 else n
     let u := Safety.written (Safety.freed s) m (s.cfg.statusBase + 4 * word) (picture.getD word 0)
     let stands := s.status.demand = true ∧ s.setup.inForce ≠ none ∧
       (s.supply.part = .scanning ∨ s.supply.part = .running)
     let after (u : State) := exec (.statusWordWrite m) s = .next (State.settlePorts u s)
     let ends (v : State) := (s.supply.part = .scanning → s.scanner = none → after { v with
         scanner := some
           { position := 0, words := [], spoiled := false, highest := none, lowest := none
             count := 0 }
         arbiter := { v.arbiter with reader := v.arbiter.reader ++ [.logScanner] } }) ∧
       (s.supply.part ≠ .scanning ∨ s.scanner ≠ none → after v)
     (m ≠ .fault → n < 47 → after
       { u with
         status := { u.status with rewrite := some (.writing picture (n + 1)) }
         arbiter := { u.arbiter with status := true } }) ∧
     (m ≠ .fault → n = 47 → ¬stands → ends { u with status := { u.status with rewrite := none } }) ∧
     (m ≠ .fault → n = 47 → stands → ends
       { u with
         status := { u.status with rewrite := some .requested }
         arbiter := { u.arbiter with status := true } }) ∧
     (m = .fault → ends
       { u with
         status := { u.status with rewrite := none }
         alert := { u.alert with latched := u.alert.latched ||| Cause.writerFault.bit } }))

/-- The picture of 48 words, word by word (R178, R216), but for the account view in words 33 to 43. The zeros of
word 17 above bit 0 while the recorded-through sequence is absent, and of word 18 above its reason while no
access stands rejected, are the model's choice (DESIGN CHOICE, log 40). The account view in words 33 to 43
(R191, R216): empty, or the entry as it stood at its QUERY, each field shown in the lifecycle that has it
and absent otherwise. -/
def Obligations.StatusPicture : Prop :=
  (∀ (s : State) (gen : Word),
     let byte (n : Nat) := BitVec.ofNat 8 n
     let half (n : Nat) := BitVec.ofNat 16 n
     let n (i : Nat) : Word := BitVec.ofNat 32 i
     let absent : Word := 0xFFFFFFFF#32
     let part : BitVec 4 := match s.supply.part with
       | .starting _ => 1 | .opened => 2 | .scanning => 3 | .running => 4 | .retain => 5
     let cadence : BitVec 3 := match s.cadence.state with
       | .acquire => 0 | .confirm => 1 | .locked => 2 | .lost => 3
     let lives (p : Entry → Bool) := byte (s.accounts.countP p)
     let verdicts (p : Verdict → Bool) :=
       byte (s.accounts.countP (fun e => (e.consignment.map (fun c => p c.verdict)).getD false))
     let writer : BitVec 3 := match s.writer.state with
       | .idle => 0 | .waitingSpace => 1 | .writing .. => 2 | .verifying .. => 3 | .halted => 4
     let loss : List Word := match s.queue.loss with
       | some l => [n l.count, n l.first, n l.last]
       | none => [0, absent, absent]
     let log : List Word := match s.writer.log with
       | some l => [n l.head, n l.tail, n (s.cfg.logSize - l.used), l.nextSeq]
       | none => [absent, absent, absent, absent]
     let standing : BitVec 5 := BitVec.ofBool (decide (s.writer.state = .waitingSpace))
       ++ BitVec.ofBool s.writer.nearFull ++ BitVec.ofBool (s.compartments.any (fun c => c.unitOff))
       ++ BitVec.ofBool (s.compartments.any (fun c => c.doubt.isSome))
       ++ BitVec.ofBool s.cadence.lostStanding
     let result (r : ReportResult) : BitVec 8 := match r with
       | .taken => 1 | .refused .badHeader => 2 | .refused .overtaken => 3 | .refused .outOfOrder => 4
       | .refused .narrowWrite => 5 | .refused .checkFailed => 6 | .refused .timedOut => 7
       | .refused .notReady => 8 | .refused .badField => 9 | .refused .unknownConsignment => 10
       | .refused .duplicate => 11 | .refused .tableFull => 12 | .refused .wrongState => 13
       | .refused .queueFull => 14 | .refused .stale => 15 | .refused .badExport => 16
     let receipt : Word := match s.receipt.latest with
       | some (seq, r) => seq ++ 0#8 ++ result r
       | none => 0
     let through : Word := match s.receipt.recordedThrough with
       | some seq => seq ++ 1#16
       | none => 0
     let reason (r : RejectReason) : BitVec 4 := match r with
       | .misaligned => 1 | .beyondCapacity => 2 | .narrowWindow => 3 | .logProtected => 4
       | .statusProtected => 5 | .setupLocked => 6 | .memoryFault => 7
     let rejected : List Word := match s.rejected with
       | some r => [r.addr ++ BitVec.ofNat 3 r.width.bytes ++ BitVec.ofBool (r.dir == .write)
           ++ reason r.reason, n r.time]
       | none => [0, absent]
     let refusal (r : SetupReject) : BitVec 4 := match r with
       | .memoryFault => 1 | .marker => 2 | .check => 3 | .capacity => 4 | .region => 5 | .timing => 6
       | .band => 7 | .reserved => 8 | .logInUse => 9
     let setup : Word := 0#24 ++ (match s.setup.lastResult with
       | .none => 0#8 | .inFlight => 0x10#8 | .accepted => 0x20#8 | .rejected r => 3#4 ++ refusal r
       | .abandoned => 0x40#8)
     let machine (m : Allowance) : BitVec 2 := match m with
       | .idle => 0 | .grace _ => 1 | .expired => 2 | .recovery _ => 3
     let mode (m : ProbeMode) : BitVec 2 := match m with
       | .none => 0 | .singleA => 1 | .singleB => 2 | .dual => 3
     let temp (i : Option Int) : Half := match i with
       | some v => BitVec.ofInt 16 v
       | none => 0x8000#16
     let summary (k : Nat) : List Word := match s.compartments[k]? with
       | some c => [temp (c.effective.map Effective.warm) ++ temp (c.effective.map Effective.cold),
           0#18 ++ machine c.defrostMachine ++ 0#2 ++ machine c.doorMachine ++ 0#5
             ++ BitVec.ofBool c.doubt.isSome ++ mode c.mode]
       | none => [0x80008000#32, 0]
     let power : List Word := match s.supply.powerLoss with
       | some p => [n p.loss, (p.ret.map n).getD absent]
       | none => [absent, absent]
     let echo : Word := match s.alert.echo with
       | some e => BitVec.ofBool e.clear ++ 1#1 ++ 0#17 ++ e.causes
       | none => 0
     let counters := s.alert.counters
     ∃ view : List Word, view.length = 11 ∧ s.picture gen =
       [gen,
         part ++ BitVec.ofBool s.setup.load.isSome ++ cadence ++ BitVec.ofNat 4 s.cadence.miss
           ++ BitVec.ofNat 4 s.cfg.count ++ BitVec.ofBool s.supply.powerLoss.isSome ++ 0#15,
         BitVec.ofBool s.stop.isSome ++ 0#15 ++ s.stop.getD 0,
         0#8 ++ lives (fun e => e matches .staged ..) ++ lives (fun e => e matches .tracked ..)
           ++ lives (fun e => e matches .closing ..),
         0#8 ++ verdicts (fun v => v matches .clean) ++ verdicts (fun v => v matches .unproven _)
           ++ verdicts (fun v => v matches .broken _),
         0#8 ++ byte s.queue.entries.length ++ 0#13 ++ writer] ++ loss ++ log ++
       [s.writer.chain ++ (s.cfg.word 63).extractLsb' 0 16, 0#3 ++ standing ++ 0#11 ++ s.alert.latched,
         0#19 ++ (s.cfg.word 13).extractLsb' 0 13, receipt, through] ++ rejected ++
       [half counters.refusedReports ++ half counters.protectViolations,
         half counters.accessErrors ++ half counters.missedReadings,
         0#16 ++ half counters.lostRecords, n s.clock.seconds, setup] ++
       summary 0 ++ summary 1 ++ summary 2 ++ summary 3 ++ view ++ power ++ [gen, echo]) ∧
  (∀ (s : State) (gen : Word) (seq : Half) (slot : Nat) (c : Consignment) (t : Tracking) (x : Excursion)
     (d : Nat) (o : Option Opening) (m : Totals),
     let n (i : Nat) : Word := BitVec.ofNat 32 i
     let absent : Word := 0xFFFFFFFF#32
     let temp (i : Option Int) : Half := match i with
       | some v => BitVec.ofInt 16 v
       | none => 0x8000#16
     let verdict : BitVec 5 := match c.verdict with
       | .clean => 0#2 ++ 0#3
       | .unproven .gap => 1#2 ++ 1#3
       | .unproven .staging => 1#2 ++ 2#3
       | .unproven .recordLost => 1#2 ++ 3#3
       | .broken .hardLimit => 2#2 ++ 4#3
       | .broken .dose => 2#2 ++ 5#3
       | .broken .duration => 2#2 ++ 6#3
     let head (excursions : Nat) : Word := seq ++ BitVec.ofNat 8 slot ++ BitVec.ofNat 8 excursions
     let named (lifecycle : BitVec 4) (condition : BitVec 2) (peak : Nat) : Word :=
       lifecycle ++ BitVec.ofNat 2 c.compartment ++ BitVec.ofNat 3 c.band ++ condition ++ verdict
         ++ BitVec.ofNat 16 peak
     let totals (m : Totals) : List Word :=
       [temp m.peakWarm ++ temp m.peakCold, n m.breakDose, n m.allowanceDose, n m.gap]
     let shows (e : Entry) (ws : List Word) :=
       s.alert.view = some { seq := seq, slot := slot, entry := e } →
         ((s.picture gen).drop 33).take 11 = ws
     (s.alert.view = none → ((s.picture gen).drop 33).take 11 =
       [0, 0, 0x80008000#32] ++ List.replicate 8 absent) ∧
     shows (.staged c d) ([head 0, named 1 0 0, 0x80008000#32] ++ List.replicate 3 absent ++ [n d] ++
       List.replicate 4 absent) ∧
     (t.excursion = none → shows (.tracked c t) ([head t.totals.excursions, named 2 1 0] ++
       totals t.totals ++ [n t.lastGood] ++ List.replicate 4 absent)) ∧
     (t.excursion = some x → shows (.tracked c t) ([head t.totals.excursions, named 2 2 x.peak] ++
       totals t.totals ++ [n t.lastGood, n x.start, n x.allowed, n x.brk, n x.unallowed])) ∧
     shows (.closing c o m) ([head m.excursions, named 3 0 0] ++ totals m ++
       [(o.map (fun p => n p.time)).getD absent] ++ List.replicate 4 absent))

/-! ## The log scan, supplies, reset and clock (chapter 10) -/

/-- One word of the log scan (R208): a word that is no candidate sends the scan one position on; the words
of a candidate are read whole; a valid record is noted and skipped, and an invalid one sends the scan to
the position after its first word. FAULT is a word without the marker and spoils its candidate, whose
remaining words are read all the same (the model's reading, DEDUCED, log 24). -/
def Obligations.ScanJudgesWords : Prop :=
  ∀ (c : Scanner) (w first : Word) (rest : List Word),
    let candidate := bits w 31 24 = 0x5C ∧ bits w 19 15 ≤ 20
    let skipped : Scanner := { c with position := c.position + 1, words := [], spoiled := false }
    (c.words = [] →
      (candidate → c.take (some w) = { c with words := [w], spoiled := false }) ∧
      (¬candidate → c.take (some w) = skipped) ∧ c.take none = skipped) ∧
    (c.words = first :: rest →
      let words := first :: rest ++ [w]
      let length := bits first 19 15 + 4
      let valid := (words.getLastD 0).extractLsb' 16 16 = spanCheck words.dropLast ∧
        first.extractLsb' 0 15 = (words.getD 1 0).extractLsb' 0 15
      let found : Found :=
        { position := c.position, seq := words.getD 1 0, length := words.length
          chain := (words.getLastD 0).extractLsb' 0 16 }
      (words.length < length → c.take (some w) = { c with words := words }) ∧
      (length ≤ words.length → c.spoiled = false → valid → c.take (some w) =
        { position := c.position + words.length, words := [], spoiled := false
          highest := some (match c.highest with
            | none => found
            | some h => if h.seq.toNat < found.seq.toNat then found else h)
          lowest := some (match c.lowest with
            | none => found
            | some h => if found.seq.toNat < h.seq.toNat then found else h)
          count := c.count + 1 }) ∧
      (length ≤ words.length → c.spoiled = true ∨ ¬valid → c.take (some w) = skipped) ∧
      (words.length < length → ∃ x : Word,
        c.take none = { c with words := first :: rest ++ [x], spoiled := true }) ∧
      (length ≤ words.length → c.take none = skipped))

/-- A read of the log scan (R208): the next word is asked for, modulo the log size, until the scan position
reaches the log size, where the scan ends. The end of the scan (R209): the pointers and the next sequence
from the records noted, the chain anew, the COLD_START record and the held SETUP record, LOG_NEAR_FULL,
RESTART, the valid flag, RUNNING. -/
def Obligations.LogScanReadsAndEnds : Prop :=
  (∀ (s : State) (c : Scanner) (m : MemAnswer), s.arbiter.owner = some (.reader .logScanner) →
     s.scanner = some c →
     let u := Safety.freed s
     let next := c.take
       (s.memRead m (s.cfg.logBase + 4 * ((c.position + c.words.length) % s.cfg.logSize)))
     (next.position < s.cfg.logSize → exec (.logScanRead m) s = .next (State.settlePorts
       { u with
         scanner := some next
         arbiter := { u.arbiter with reader := u.arbiter.reader ++ [.logScanner] } } s)) ∧
     (s.cfg.logSize ≤ next.position →
       exec (.logScanRead m) s = .next (State.settlePorts (u.endScan next) s))) ∧
  (∀ (s : State) (c : Scanner) (outcome : ColdOutcome), s.queue.entries = [] →
     s.setup.heldRecord = true → s.supply.coldOutcome = some outcome →
     let becomes (l : LogState) (highest : Option (Word × Half)) :=
       let u := State.judgeNearFull { s with
         scanner := none
         writer := { s.writer with log := some l, chain := 0xFFFF#16 }
         queue := { s.queue with
           entries :=
             [{ time := s.clock.seconds, slot := none, body := .coldStart highest c.count outcome },
               { time := s.clock.seconds, slot := none
                 body := .setup ((s.cfg.word 63).extractLsb' 0 16) s.cfg.logBase s.cfg.logSize
                   false }] }
         setup := { s.setup with heldRecord := false } }
       s.endScan c = { u with
         alert := { u.alert with latched := u.alert.latched ||| Cause.restart.bit }
         supply := { u.supply with retainedValid := true, part := .running, coldOutcome := none } }
     (∀ h l, c.highest = some h → c.lowest = some l →
       let head := (h.position + h.length) % s.cfg.logSize
       becomes
         { head := head, tail := l.position
           used := if head = l.position then s.cfg.logSize
             else (head + s.cfg.logSize - l.position) % s.cfg.logSize
           nextSeq := h.seq + 1 }
         (some (h.seq, h.chain))) ∧
     (c.highest = none → c.lowest = none →
       becomes { head := 0, tail := 0, used := 0, nextSeq := 1 } none))

/-- The restart values of a power return and of a reset line (R32, R50, R96, R109, R137, R156, R177, R201 step
1, R124): transient state cleared, a record being written abandoned, a load in flight ABANDONED, and the
accounts, the queue, the pointers, the causes, the counters and memory as they stood. What a main supply
loss clears of the transient state (R32, R196, R198, R124): like a restart, but the unit-off standing, the
writer's state and the last setup result are retained. R196 says that the transient state is lost; that it
takes its restart values already at the loss is the model's (DEDUCED, log 34). What the retained check
covers (R198): every item of R198's table, the compartment records but for door, unit, both allowance
machines and the three runs, and nothing else. -/
def Obligations.RestartValues : Prop :=
  (∀ s : State, s.restartValues =
     { s with
       compartments := s.compartments.map (fun c =>
         { c with
           disagreeRun := 0, absenceRun := 0, trustRun := 0, door := .unknown, unit := .unknown
           doorMachine := .idle, defrostMachine := .idle, unitOff := false })
       cadence :=
         { state := .acquire, deadline := none, miss := 0, lastSeq := none, lostStanding := false }
       assembler := { collecting := none, waiting := none, handling := none }
       receipt := { latest := none, recordedThrough := none, mark := none }
       writer := { s.writer with
         state := match s.writer.state with
           | .writing _ _ _ => .idle
           | .verifying _ _ => .idle
           | w => w
         nearFull := match s.setup.inForce, s.writer.log with
           | some c, some l => decide (c.logSize - l.used < c.nearFull)
           | _, _ => false }
       setup := { s.setup with
         load := none, heldRecord := false
         lastResult := if s.setup.lastResult = .inFlight then .abandoned else s.setup.lastResult }
       scanner := none
       alert := { s.alert with echo := none, view := none }
       status := { s.status with demand := false, rewrite := none }
       arbiter :=
         { owner := none, lockout := none, fairness := 0, upstream := false, writer := false
           reader := [], status := false }
       rejected := none }) ∧
  (∀ s : State, s.clearTransients =
     { s with
       compartments := s.compartments.map (fun c =>
         { c with
           disagreeRun := 0, absenceRun := 0, trustRun := 0, door := .unknown, unit := .unknown
           doorMachine := .idle, defrostMachine := .idle })
       cadence :=
         { state := .acquire, deadline := none, miss := 0, lastSeq := none, lostStanding := false }
       assembler := { collecting := none, waiting := none, handling := none }
       receipt := { latest := none, recordedThrough := none, mark := none }
       writer := { s.writer with
         nearFull := match s.setup.inForce, s.writer.log with
           | some c, some l => decide (c.logSize - l.used < c.nearFull)
           | _, _ => false }
       setup := { s.setup with load := none, heldRecord := false }
       scanner := none
       alert := { s.alert with echo := none, view := none }
       status := { s.status with demand := false, rewrite := none }
       arbiter :=
         { owner := none, lockout := none, fairness := 0, upstream := false, writer := false
           reader := [], status := false }
       rejected := none }) ∧
  (∀ s t : State,
     let kept (c : Compartment) : Compartment :=
       { c with
         disagreeRun := 0, absenceRun := 0, trustRun := 0, door := .unknown, unit := .unknown
         doorMachine := .idle, defrostMachine := .idle }
     s.retained = t.retained ↔
       s.accounts = t.accounts ∧ s.compartments.map kept = t.compartments.map kept ∧
       s.stop = t.stop ∧ s.queue = t.queue ∧ s.writer.log = t.writer.log ∧
       s.writer.chain = t.writer.chain ∧ s.writer.state = t.writer.state ∧
       s.setup.inForce = t.setup.inForce ∧ s.setup.lastResult = t.setup.lastResult ∧
       s.alert.latched = t.alert.latched ∧ s.alert.counters = t.alert.counters ∧
       s.status.gen = t.status.gen ∧ s.supply.powerLoss = t.supply.powerLoss ∧
       s.supply.retainedValid = t.supply.retainedValid)

/-- A main supply loss (R143, R144, R196): RETAIN, the loss time, the ports inactive and their accesses gone,
the transient state cleared. A word being written is left old or new, and no other byte of memory changes.
With no backup supply the domain is lost too (R197). The model's choices: the backup supply's return as an
operand (log 16), the free level of the undriven line (log 17), old or new for record and status words too
(log 4), and the accesses waiting behind dropped with the carried one (log 28). A backup supply loss changes
nothing else while main supply is present, and loses the domain while it is absent (R197). A main supply
return starts the stable wait, the part staying in RETAIN (R200). -/
def Obligations.SupplyLossAndReturn : Prop :=
  (∀ (s : State) (backup : Bool), s.supply.mainPresent = true →
     let fed := s.supply.backupPresent || backup
     ∃ (m : Mem) (free : Nat),
       (m = s.mem ∨ ∃ a w, Safety.writeInProgress s = some (a, w) ∧ m = s.mem.writeWord a w) ∧
       let u := State.clearTransients { s with
         mem := m, free := free
         port := { s.port with current := none, behind := [] } }
       let v : State := { u with
         supply := { u.supply with
           part := .retain, mainPresent := false, stableWait := false, resetTime := none
           backupPresent := fed
           powerLoss := if s.supply.stableWait then s.supply.powerLoss
             else some { loss := s.clock.seconds, ret := none } } }
       (fed = true ∨ s.supply.domainHeld = false →
         exec (.mainSupplyLoss backup) s = .next (State.settle v s)) ∧
       (fed = false → s.supply.domainHeld = true → ∃ line,
         exec (.mainSupplyLoss backup) s = .next (State.settle { v with
           supply := { v.supply with domainHeld := false }
           alert := { v.alert with line := line }
           free := v.free + 1 } s))) ∧
  (∀ s : State,
     let u : State := { s with supply := { s.supply with backupPresent := false } }
     (s.supply.mainPresent = true → exec .backupSupplyLoss s = .next (State.settle u s)) ∧
     (s.supply.mainPresent = false → s.supply.domainHeld = true → ∃ line,
       exec .backupSupplyLoss s = .next (State.settle { u with
         supply := { u.supply with domainHeld := false }
         alert := { u.alert with line := line }
         free := u.free + 1 } s)) ∧
     (s.supply.part = .retain → s.supply.mainPresent = false →
       exec .mainSupplyReturn s = .next (State.settle
         { s with supply := { s.supply with mainPresent := true, stableWait := true } } s)))

/-- The end of the stable wait (R199, R200): with the mark set, the valid flag set and the check in agreement,
the power return proper in its six steps (R201); otherwise the cold-start path with its outcome. Accesses
that arrive in that STARTING are held and none is judged before it ends; where the return ends it, the first
is judged in RUNNING, with those behind it while the port carries none (R142, R201 step 6), and a reset
input asserted meanwhile then acts (R203). The model's choices: `intact`, whether retained memory still
holds what the last operation left (log 15), what falls in the STARTING of the step as operands (log 33),
that the held assertion acts in the same step, memory's answers being operands (log 19), and the order
within step 6, that of its words: the held access, the rewrite, the writer's front entry (log 37). A level
of the reset input asserted in RETAIN and still held acts then too (log 36), and the first grant after the
return goes by requests that arrive together (log 39). A main supply loss during a power return (R203; the
points at which it may fall are the operations of the return, log 33): what the return has done stands
whole, and the loss is that of R196. Before step 2 the last power-loss interval stands as it did; after it
the loss is a new one. The POWER record stays in the queue, and the deadlines not reached stay with their
accounts. The accesses held meanwhile are abandoned without an answer (R143). In the loss the model's
choices are those of any loss: the backup supply's return as an operand (log 16), the free level of the
undriven line (log 17), and the accesses waiting behind dropped with the carried one (log 28). -/
def Obligations.StableWaitJudged : Prop :=
  (∀ (s : State) (intact asserted : Bool) (arriving : List HostAccess) (loss : Option ReturnLoss)
     (held : ResetAnswers), s.supply.part = .retain → s.supply.stableWait = true →
     let usable := s.supply.domainHeld = true ∧ s.supply.retainedValid = true ∧ intact = true ∧
       s.supply.retainedCheck = s.retainedCheckNow
     let waited : State := { s with
       supply := { s.supply with stableWait := false, resetPin := s.supply.resetPin || asserted }
       port := { s.port with behind := s.port.behind ++ arriving } }
     let becomes (loss : Option ReturnLoss) (u : State) :=
       exec (.stableWaitComplete
         { intact := intact, arriving := arriving, asserted := asserted, loss := loss, held := held }) s =
           .next u
     let noted : State := State.restartValues { waited with
       supply := { waited.supply with
         powerLoss := s.supply.powerLoss.map (fun p =>
           { loss := p.loss, ret := some s.clock.seconds }) } }
     let returned (p : PowerLoss) : State :=
       let u := (noted.produce
         { time := s.clock.seconds, slot := none, body := .power p.loss s.clock.seconds }).takeAllFallen
       let v := State.pump { u with
         alert := { u.alert with latched := u.alert.latched ||| Cause.restart.bit }
         supply := { u.supply with part := .running } }
       State.settlePorts (State.takeEntry { v with
         status := { v.status with demand := true, rewrite := some .requested }
         arbiter := { v.arbiter with status := true } }) s
     (∀ p, usable → s.supply.powerLoss = some p → s.supply.resetPin = false → asserted = false →
       becomes none (returned p)) ∧
     (∀ p, usable → s.supply.powerLoss = some p → s.supply.resetPin = true ∨ asserted = true →
       becomes none (State.settlePorts (Safety.resetActed (returned p) held) (returned p))) ∧
     (¬usable → becomes loss (State.settlePorts
       (waited.coldStart (if s.supply.domainHeld then .lost else .none)) s))) ∧
  (∀ (s : State) (point : ReturnPoint) (backup asserted : Bool) (arriving : List HostAccess)
     (held : ResetAnswers) (p : PowerLoss),
     s.supply.part = .retain → s.supply.stableWait = true → s.supply.domainHeld = true →
     s.supply.retainedValid = true → s.supply.retainedCheck = s.retainedCheckNow →
     s.supply.powerLoss = some p →
     let waited : State := { s with
       supply := { s.supply with stableWait := false, resetPin := s.supply.resetPin || asserted }
       port := { s.port with behind := s.port.behind ++ arriving } }
     let noted : State := State.restartValues { waited with
       supply := { waited.supply with
         powerLoss := some { loss := p.loss, ret := some s.clock.seconds } } }
     let queued := noted.produce
       { time := s.clock.seconds, slot := none, body := .power p.loss s.clock.seconds }
     let reached : State := match point with
       | .cleared => waited.restartValues
       | .noted => noted
       | .deadlines n => takeFallen n queued
       | .restartLatched =>
         let u := queued.takeAllFallen
         { u with alert := { u.alert with latched := u.alert.latched ||| Cause.restart.bit } }
     let interval : PowerLoss := match point with
       | .cleared => p
       | _ => { loss := s.clock.seconds, ret := none }
     let fed := s.supply.backupPresent || backup
     let u := State.clearTransients
       { reached with port := { reached.port with current := none, behind := [] } }
     let lost : State := { u with supply := { u.supply with
       part := .retain, mainPresent := false, stableWait := false, resetTime := none
       backupPresent := fed, powerLoss := some interval } }
     let loses (v : State) := exec
       (.stableWaitComplete
         { intact := true, arriving := arriving, asserted := asserted
           loss := some { point := point, backupRestored := backup }, held := held }) s =
         .next (State.settlePorts v s)
     (fed = true → loses lost) ∧
     (fed = false → ∃ line, loses { lost with
       supply := { lost.supply with domainHeld := false }
       alert := { lost.alert with line := line }
       free := lost.free + 1 }))

/-- The deadlines that fell during RETAIN are all taken at the return, a staging deadline's new gap deadline
among them (R202). They are taken one at a time, the earliest first, each as its own command takes it; which
of several of one second goes first is free (log 11). No account deadline or allowance expiry that the
seconds count has reached is left behind when the clock leaves that second, whatever commands came or did
not come (R194; the model's flush, log 10), and a reached expected-arrival deadline is taken then as its own
command takes it. A completion deadline that the clock has reached is not left behind at any advance. In
RETAIN none is taken. -/
def Obligations.DeadlinesNotSkipped : Prop :=
  ((∀ (s : State) (e : Entry) (d : Nat), s.accounts.length = 48 → e ∈ s.takeAllFallen.accounts →
     e.deadline = some d → s.clock.seconds < d) ∧
   (∀ s : State, s.takeAllFallen = takeFallen 96 s) ∧
   (∀ (s : State) (n : Nat),
     ((∀ e ∈ s.accounts, ∀ d, e.deadline = some d → s.clock.seconds < d) → takeFallen n s = s) ∧
     ((∃ e ∈ s.accounts, ∃ d, e.deadline = some d ∧ d ≤ s.clock.seconds) →
       ∃ slot e d free, s.accounts[slot]? = some e ∧ e.deadline = some d ∧ d ≤ s.clock.seconds ∧
         (∀ f ∈ s.accounts, ∀ x, f.deadline = some x → d ≤ x) ∧
         takeFallen (n + 1) s =
           takeFallen n (State.takeDeadline { s with free := free } slot))) ∧
   (∀ (s : State) (slot : Nat) (e : Entry) (d : Nat), s.accounts[slot]? = some e → e.deadline = some d →
     d ≤ s.clock.seconds → s.supply.part ≠ .retain →
     ((∃ c, e = .staged c d) →
       exec (.stagingDeadline slot) s = .next (State.settle (s.takeDeadline slot) s)) ∧
     ((∃ c t, e = .tracked c t) →
       exec (.gapDeadline slot) s = .next (State.settle (s.takeDeadline slot) s)))) ∧
  (∀ (s t : State), Safety.Inv s → s.supply.domainHeld = true → exec .chillClockAdvance s = .next t →
     (s.supply.part ≠ .retain → ∀ c, t.assembler.collecting = some c →
       s.clock.seconds * 64 + s.clock.sub < c.deadline) ∧
     (s.supply.part ≠ .retain → s.clock.sub = 63 →
       (∀ u, exec .expectedArrivalDeadline s = .next u → t.cadence = u.cadence ∧
         t.alert.counters.missedReadings = u.alert.counters.missedReadings) ∧
       (∀ e ∈ t.accounts, ∀ d, e.deadline = some d → s.clock.seconds < d) ∧
       (∀ c ∈ t.compartments, ∀ n d, c.machine n = .grace d ∨ c.machine n = .recovery d →
         s.clock.seconds < d)) ∧
     (s.supply.part = .retain → t.accounts = s.accounts ∧ t.compartments = s.compartments ∧
       t.queue = s.queue ∧ t.cadence = s.cadence ∧ t.assembler = s.assembler))

/-- The reset input asserted in OPEN, SCANNING or RUNNING (R204): work in progress is brought to an end, the
restart values follow, and the part is STARTING with the assertion time. In STARTING it waits (R205) and in
RETAIN it is not taken (R196); only the line changes, and a level kept through RETAIN acts when the STARTING
that follows ends (DESIGN CHOICE, log 36). An input already asserted is not asserted again (log 6). The
memory access in progress at a reset assertion, by its requester (R204): the host access the port carries
goes on to its end; the log writer's word write completes, its record staying uncommitted whatever the
outcome, a FAULT halting nothing and latching nothing (DEDUCED, log 20); a read-back or an internal read
completes and is discarded; a status write completes, a FAULT latching WRITER_FAULT (R181). A host access
already taken by the filter completes whole at a reset assertion and is answered with its outcome (R143,
R204), by its treatment and memory's answers: a read, a word write with the load trigger it may hand, a
window write with its feed, a read-modify-write that runs to its write (R158), a suppressed write. An access
not yet taken stays as it is. -/
def Obligations.ResetAsserted : Prop :=
  (∀ (s : State) (r : ResetAnswers),
     let becomes (u : State) := exec (.resetAssert r.inProgress r.hostFirst r.hostSecond) s = .next u
     let acted := Safety.resetActed s r
     (s.supply.resetPin = true → becomes s) ∧
     (s.supply.resetPin = false →
       (s.supply.part = .opened ∨ s.supply.part = .scanning ∨ s.supply.part = .running →
         becomes (State.settlePorts
           { acted with supply := { acted.supply with resetPin := true } } s)) ∧
       (s.supply.part = .retain ∨ (∃ v, s.supply.part = .starting v) →
         becomes (State.settlePorts { s with supply := { s.supply with resetPin := true } } s)))) ∧
  (∀ (s : State) (r : ResetAnswers),
     let goesOn (u : State) := s.endWork r = State.finishTaken u r.hostFirst r.hostSecond
     (s.arbiter.owner = none → goesOn (Safety.freed s)) ∧
     (s.arbiter.owner = some .upstream →
       s.endWork r = State.finishTaken (Safety.freed s) r.inProgress r.hostFirst) ∧
     (∀ record chain i l, s.arbiter.owner = some .writer →
       s.writer.state = .writing record chain i → s.writer.log = some l →
       goesOn (Safety.freed (Safety.written s r.inProgress
         (s.cfg.logBase + 4 * ((l.head + i) % s.cfg.logSize)) (record.getD i 0)))) ∧
     (∀ record chain, s.arbiter.owner = some .writer → s.writer.state = .verifying record chain →
       goesOn (Safety.freed s)) ∧
     (∀ c, s.arbiter.owner = some (.reader c) → goesOn (Safety.freed s)) ∧
     (∀ picture i, s.arbiter.owner = some .status → s.status.rewrite = some (.writing picture i) →
       let word := if i = 46 then 47 else if i = 47 then 46 else i
       let u := Safety.freed
         (Safety.written s r.inProgress (s.cfg.statusBase + 4 * word) (picture.getD word 0))
       (r.inProgress ≠ .fault → goesOn u) ∧
       (r.inProgress = .fault → goesOn
         { u with alert := { u.alert with latched := u.alert.latched ||| Cause.writerFault.bit } }))) ∧
  (∀ (u : State) (a : HostAccess) (m n : MemAnswer),
     let taken (job : HostJob) := u.port.current = some { acc := a, phase := .atMemory job }
     let ends (v : State) := State.finishTaken u m n = v
     let address := a.addr.toNat / 4 * 4
     let stored := Safety.written u m address a.data
     let triggers := a.addr.toNat = 252 ∧ ∀ e ∈ u.accounts, e = Entry.free
     let suppressed (reason : RejectReason) : State := Safety.answered
       { u with
         alert := { u.alert with
           latched := u.alert.latched ||| Cause.protectViolation.bit
           counters := { u.alert.counters with
             protectViolations := min (u.alert.counters.protectViolations + 1) 65535 } }
         rejected := some
           { addr := a.addr, width := a.width, dir := a.dir, reason := reason
             time := u.clock.seconds } } a .error
     let merges (w merged : Word) := ∀ k < 4,
       let named := a.addr.toNat % 4 ≤ k ∧ k < a.addr.toNat % 4 + a.width.bytes
       (named → byteOf merged k = byteOf a.data k) ∧ (¬named → byteOf merged k = byteOf w k)
     ((∀ b job, u.port.current ≠ some { acc := b, phase := .atMemory job }) → ends u) ∧
     (taken .read → (∀ w, u.memRead m address = some w → ends (Safety.answered u a (.readOk
         ((List.range a.width.bytes).map (fun i => byteOf w (a.addr.toNat % 4 + i)))))) ∧
       (m = .fault → ends (Safety.rejected u a .memoryFault))) ∧
     (taken .write → (m ≠ .fault → ¬triggers → ends (Safety.answered stored a .writeOk)) ∧
       (m ≠ .fault → triggers → ends (Safety.answered (Safety.loadRaised stored) a .writeOk)) ∧
       (m = .fault → ends (Safety.rejected stored a .memoryFault))) ∧
     (∀ i, taken (.windowWrite i) →
       (m ≠ .fault → ends (Safety.answered (stored.feed i a.data) a .writeOk)) ∧
       (m = .fault → ends (Safety.rejected stored a .memoryFault))) ∧
     (taken .rmwRead → (∀ w, u.memRead m address = some w → ∃ merged, merges w merged ∧
         let v := Safety.unlocked
           (Safety.written (Safety.waitsAtMemory u a (.rmwWrite merged)) n address merged)
         (n ≠ .fault → ends (Safety.answered v a .writeOk)) ∧
         (n = .fault → ends (Safety.rejected v a .memoryFault))) ∧
       (m = .fault → ends (Safety.rejected (Safety.unlocked u) a .memoryFault))) ∧
     (∀ merged, taken (.rmwWrite merged) →
       let v := Safety.unlocked (Safety.written u m address merged)
       (m ≠ .fault → ends (Safety.answered v a .writeOk)) ∧
       (m = .fault → ends (Safety.rejected v a .memoryFault))) ∧
     (∀ reason, taken (.suppressed reason) → ends (suppressed reason)))

/-- The reset input released while its restart waits (R204, R205): with the valid flag set the RESET
record, RESTART and RUNNING with a full rewrite and the writer's front entry; with it unset the setup in
force is absent and a load is triggered, clock, counters and causes standing. Elsewhere only the line. In
RUNNING the held access is judged first, then the rewrite begins and the writer takes its entry: the order
of R204's words (DEDUCED, log 37), the first grant going by requests that arrive together (DEDUCED, log 39).
With the setup absent no compartment record stands (R30; DEDUCED, log 21). -/
def Obligations.ResetReleased : Prop :=
  ∀ s : State, s.supply.resetPin = true →
    let becomes (u : State) := exec .resetRelease s = .next (State.settlePorts u s)
    let low : State := { s with supply := { s.supply with resetPin := false } }
    (∀ t, s.supply.part = .starting .resetLine → s.supply.retainedValid = true →
      s.supply.resetTime = some t →
      let u := low.produce { time := s.clock.seconds, slot := none, body := .reset t }
      let v := State.pump { u with
        alert := { u.alert with latched := u.alert.latched ||| Cause.restart.bit }
        supply := { u.supply with resetTime := none, part := .running } }
      becomes (State.takeEntry { v with
        status := { v.status with demand := true, rewrite := some .requested }
        arbiter := { v.arbiter with status := true } })) ∧
    (s.supply.part = .starting .resetLine → s.supply.retainedValid = false →
      becomes { low with
        supply := { low.supply with resetTime := none, part := .starting .coldLoad }
        setup := { s.setup with inForce := none, load := some [], lastResult := .inFlight }
        compartments := []
        arbiter := { s.arbiter with reader := s.arbiter.reader ++ [.setupLoader] } }) ∧
    (s.supply.part ≠ .starting .resetLine → becomes low)

/-- The chill clock's advance (R193): the sub-count, or at 63 the seconds count; both stop at the largest
seconds count; a lost domain's clock stands (R197, log 17). With no deadline reached nothing else happens, and
in RETAIN nothing else does whatever deadlines have fallen, no block acting there (R194). The count is the
same where the advance takes deadlines (the flush: log 10). -/
def Obligations.ChillClockAdvances : Prop :=
  ∀ s : State,
    let undue := (∀ c, s.assembler.collecting = some c →
        s.clock.seconds * 64 + s.clock.sub < c.deadline) ∧
      (∀ e ∈ s.accounts, ∀ d, e.deadline = some d → s.clock.seconds < d) ∧
      (∀ d, s.cadence.deadline = some d → s.clock.seconds < d) ∧
      (∀ c ∈ s.compartments, ∀ n d, c.machine n = .grace d ∨ c.machine n = .recovery d →
        s.clock.seconds < d)
    let ticks (c : Clock) := exec .chillClockAdvance s = .next (State.settle { s with clock := c } s)
    (s.supply.domainHeld = true → undue → s.clock.seconds < 4294967295 →
      (s.clock.sub = 63 → ticks { seconds := s.clock.seconds + 1, sub := 0 }) ∧
      (s.clock.sub < 63 → ticks { seconds := s.clock.seconds, sub := s.clock.sub + 1 })) ∧
    (s.supply.domainHeld = true → undue → 4294967295 ≤ s.clock.seconds → ticks s.clock) ∧
    (s.supply.domainHeld = false → exec .chillClockAdvance s = .next s) ∧
    (let counted : Clock :=
       if 4294967295 ≤ s.clock.seconds then s.clock
       else if s.clock.sub = 63 then { seconds := s.clock.seconds + 1, sub := 0 }
       else { seconds := s.clock.seconds, sub := s.clock.sub + 1 }
     (s.supply.domainHeld = true → s.supply.part = .retain → ticks counted) ∧
     (s.supply.domainHeld = true →
       ∃ t, exec .chillClockAdvance s = .next t ∧ t.clock = counted ∧ t.mem = s.mem))
end

