-- ==== Sys2Proof/Laws/State.lean ====
section
/-! SUPPORT. What each shared operation leaves as it was, field by field, for `simp`. -/

namespace Sys2Proof.Machine

/-- What `seal` leaves as it was. -/
@[simp] theorem State.seal_frame (s : State) :
    (s.seal).pending = s.pending ∧ (s.seal).free = s.free ∧ (s.seal).clock = s.clock ∧
    (s.seal).supply.part = s.supply.part ∧ (s.seal).supply.mainPresent = s.supply.mainPresent ∧
    (s.seal).supply.backupPresent = s.supply.backupPresent ∧
    (s.seal).supply.stableWait = s.supply.stableWait ∧
    (s.seal).supply.resetPin = s.supply.resetPin ∧ (s.seal).supply.resetTime = s.supply.resetTime ∧
    (s.seal).supply.domainHeld = s.supply.domainHeld ∧
    (s.seal).supply.retainedValid = s.supply.retainedValid ∧
    (s.seal).supply.coldOutcome = s.supply.coldOutcome ∧
    (s.seal).supply.powerLoss = s.supply.powerLoss ∧ (s.seal).mem = s.mem ∧
    (s.seal).accounts = s.accounts ∧ (s.seal).compartments = s.compartments ∧
    (s.seal).stop = s.stop ∧ (s.seal).cadence = s.cadence ∧ (s.seal).assembler = s.assembler ∧
    (s.seal).receipt = s.receipt ∧ (s.seal).queue = s.queue ∧ (s.seal).writer = s.writer ∧
    (s.seal).setup = s.setup ∧ (s.seal).scanner = s.scanner ∧ (s.seal).alert = s.alert ∧
    (s.seal).status = s.status ∧ (s.seal).arbiter = s.arbiter ∧ (s.seal).port = s.port ∧
    (s.seal).rejected = s.rejected := by
  repeat' constructor

/-- What `latch` leaves as it was. -/
@[simp] theorem State.latch_frame (s : State) (c : Cause) :
    (s.latch c).pending = s.pending ∧ (s.latch c).free = s.free ∧ (s.latch c).clock = s.clock ∧
    (s.latch c).supply = s.supply ∧ (s.latch c).mem = s.mem ∧ (s.latch c).accounts = s.accounts ∧
    (s.latch c).compartments = s.compartments ∧ (s.latch c).stop = s.stop ∧
    (s.latch c).cadence = s.cadence ∧ (s.latch c).assembler = s.assembler ∧
    (s.latch c).receipt = s.receipt ∧ (s.latch c).queue = s.queue ∧ (s.latch c).writer = s.writer ∧
    (s.latch c).setup = s.setup ∧ (s.latch c).scanner = s.scanner ∧
    (s.latch c).alert.counters = s.alert.counters ∧ (s.latch c).alert.echo = s.alert.echo ∧
    (s.latch c).alert.view = s.alert.view ∧ (s.latch c).alert.line = s.alert.line ∧
    (s.latch c).status = s.status ∧ (s.latch c).arbiter = s.arbiter ∧ (s.latch c).port = s.port ∧
    (s.latch c).rejected = s.rejected := by
  repeat' constructor

/-- What `latchIf` leaves as it was. -/
@[simp] theorem State.latchIf_frame (s : State) (b : Bool) (c : Cause) :
    (s.latchIf b c).pending = s.pending ∧ (s.latchIf b c).free = s.free ∧
    (s.latchIf b c).clock = s.clock ∧ (s.latchIf b c).supply = s.supply ∧
    (s.latchIf b c).mem = s.mem ∧ (s.latchIf b c).accounts = s.accounts ∧
    (s.latchIf b c).compartments = s.compartments ∧ (s.latchIf b c).stop = s.stop ∧
    (s.latchIf b c).cadence = s.cadence ∧ (s.latchIf b c).assembler = s.assembler ∧
    (s.latchIf b c).receipt = s.receipt ∧ (s.latchIf b c).queue = s.queue ∧
    (s.latchIf b c).writer = s.writer ∧ (s.latchIf b c).setup = s.setup ∧
    (s.latchIf b c).scanner = s.scanner ∧ (s.latchIf b c).alert.counters = s.alert.counters ∧
    (s.latchIf b c).alert.echo = s.alert.echo ∧ (s.latchIf b c).alert.view = s.alert.view ∧
    (s.latchIf b c).alert.line = s.alert.line ∧ (s.latchIf b c).status = s.status ∧
    (s.latchIf b c).arbiter = s.arbiter ∧ (s.latchIf b c).port = s.port ∧
    (s.latchIf b c).rejected = s.rejected := by
  cases b <;> simp [State.latchIf]

/-- What `refreshNearFull` leaves as it was. -/
@[simp] theorem State.refreshNearFull_frame (s : State) :
    (s.refreshNearFull).pending = s.pending ∧ (s.refreshNearFull).free = s.free ∧
    (s.refreshNearFull).clock = s.clock ∧ (s.refreshNearFull).supply = s.supply ∧
    (s.refreshNearFull).mem = s.mem ∧ (s.refreshNearFull).accounts = s.accounts ∧
    (s.refreshNearFull).compartments = s.compartments ∧ (s.refreshNearFull).stop = s.stop ∧
    (s.refreshNearFull).cadence = s.cadence ∧ (s.refreshNearFull).assembler = s.assembler ∧
    (s.refreshNearFull).receipt = s.receipt ∧ (s.refreshNearFull).queue = s.queue ∧
    (s.refreshNearFull).writer.state = s.writer.state ∧
    (s.refreshNearFull).writer.log = s.writer.log ∧
    (s.refreshNearFull).writer.chain = s.writer.chain ∧ (s.refreshNearFull).setup = s.setup ∧
    (s.refreshNearFull).scanner = s.scanner ∧ (s.refreshNearFull).alert = s.alert ∧
    (s.refreshNearFull).status = s.status ∧ (s.refreshNearFull).arbiter = s.arbiter ∧
    (s.refreshNearFull).port = s.port ∧ (s.refreshNearFull).rejected = s.rejected := by
  repeat' constructor

/-- What `judgeNearFull` leaves as it was. -/
@[simp] theorem State.judgeNearFull_frame (s : State) :
    (s.judgeNearFull).pending = s.pending ∧ (s.judgeNearFull).free = s.free ∧
    (s.judgeNearFull).clock = s.clock ∧ (s.judgeNearFull).supply = s.supply ∧
    (s.judgeNearFull).mem = s.mem ∧ (s.judgeNearFull).accounts = s.accounts ∧
    (s.judgeNearFull).compartments = s.compartments ∧ (s.judgeNearFull).stop = s.stop ∧
    (s.judgeNearFull).cadence = s.cadence ∧ (s.judgeNearFull).assembler = s.assembler ∧
    (s.judgeNearFull).receipt = s.receipt ∧ (s.judgeNearFull).queue = s.queue ∧
    (s.judgeNearFull).writer.state = s.writer.state ∧ (s.judgeNearFull).writer.log = s.writer.log ∧
    (s.judgeNearFull).writer.chain = s.writer.chain ∧ (s.judgeNearFull).setup = s.setup ∧
    (s.judgeNearFull).scanner = s.scanner ∧ (s.judgeNearFull).alert.counters = s.alert.counters ∧
    (s.judgeNearFull).alert.echo = s.alert.echo ∧ (s.judgeNearFull).alert.view = s.alert.view ∧
    (s.judgeNearFull).alert.line = s.alert.line ∧ (s.judgeNearFull).status = s.status ∧
    (s.judgeNearFull).arbiter = s.arbiter ∧ (s.judgeNearFull).port = s.port ∧
    (s.judgeNearFull).rejected = s.rejected := by
  simp [State.judgeNearFull]

/-- What `judgeLine` leaves as it was. -/
@[simp] theorem State.judgeLine_frame (s : State) :
    (s.judgeLine).pending = s.pending ∧ (s.judgeLine).free = s.free ∧
    (s.judgeLine).clock = s.clock ∧ (s.judgeLine).supply = s.supply ∧ (s.judgeLine).mem = s.mem ∧
    (s.judgeLine).accounts = s.accounts ∧ (s.judgeLine).compartments = s.compartments ∧
    (s.judgeLine).stop = s.stop ∧ (s.judgeLine).cadence = s.cadence ∧
    (s.judgeLine).assembler = s.assembler ∧ (s.judgeLine).receipt = s.receipt ∧
    (s.judgeLine).queue = s.queue ∧ (s.judgeLine).writer = s.writer ∧
    (s.judgeLine).setup = s.setup ∧ (s.judgeLine).scanner = s.scanner ∧
    (s.judgeLine).alert.latched = s.alert.latched ∧
    (s.judgeLine).alert.counters = s.alert.counters ∧ (s.judgeLine).alert.echo = s.alert.echo ∧
    (s.judgeLine).alert.view = s.alert.view ∧ (s.judgeLine).status = s.status ∧
    (s.judgeLine).arbiter = s.arbiter ∧ (s.judgeLine).port = s.port ∧
    (s.judgeLine).rejected = s.rejected := by
  unfold State.judgeLine; split <;> simp

/-- What `judgeUnitOff` leaves as it was. -/
@[simp] theorem State.judgeUnitOff_frame (s : State) :
    (s.judgeUnitOff).pending = s.pending ∧ (s.judgeUnitOff).free = s.free ∧
    (s.judgeUnitOff).clock = s.clock ∧ (s.judgeUnitOff).supply = s.supply ∧
    (s.judgeUnitOff).mem = s.mem ∧ (s.judgeUnitOff).accounts = s.accounts ∧
    (s.judgeUnitOff).stop = s.stop ∧ (s.judgeUnitOff).cadence = s.cadence ∧
    (s.judgeUnitOff).assembler = s.assembler ∧ (s.judgeUnitOff).receipt = s.receipt ∧
    (s.judgeUnitOff).queue = s.queue ∧ (s.judgeUnitOff).writer = s.writer ∧
    (s.judgeUnitOff).setup = s.setup ∧ (s.judgeUnitOff).scanner = s.scanner ∧
    (s.judgeUnitOff).alert.counters = s.alert.counters ∧
    (s.judgeUnitOff).alert.echo = s.alert.echo ∧ (s.judgeUnitOff).alert.view = s.alert.view ∧
    (s.judgeUnitOff).alert.line = s.alert.line ∧ (s.judgeUnitOff).status = s.status ∧
    (s.judgeUnitOff).arbiter = s.arbiter ∧ (s.judgeUnitOff).port = s.port ∧
    (s.judgeUnitOff).rejected = s.rejected := by
  simp [State.judgeUnitOff]

/-- What `raiseDemand` leaves as it was. -/
@[simp] theorem State.raiseDemand_frame (s : State) (before : State) :
    (s.raiseDemand before).pending = s.pending ∧ (s.raiseDemand before).free = s.free ∧
    (s.raiseDemand before).clock = s.clock ∧ (s.raiseDemand before).supply = s.supply ∧
    (s.raiseDemand before).mem = s.mem ∧ (s.raiseDemand before).accounts = s.accounts ∧
    (s.raiseDemand before).compartments = s.compartments ∧ (s.raiseDemand before).stop = s.stop ∧
    (s.raiseDemand before).cadence = s.cadence ∧ (s.raiseDemand before).assembler = s.assembler ∧
    (s.raiseDemand before).receipt = s.receipt ∧ (s.raiseDemand before).queue = s.queue ∧
    (s.raiseDemand before).writer = s.writer ∧ (s.raiseDemand before).setup = s.setup ∧
    (s.raiseDemand before).scanner = s.scanner ∧ (s.raiseDemand before).alert = s.alert ∧
    (s.raiseDemand before).status.gen = s.status.gen ∧
    (s.raiseDemand before).status.rewrite = s.status.rewrite ∧
    (s.raiseDemand before).arbiter = s.arbiter ∧ (s.raiseDemand before).port = s.port ∧
    (s.raiseDemand before).rejected = s.rejected := by
  unfold State.raiseDemand; split <;> simp

/-- What `settle` leaves as it was. -/
@[simp] theorem State.settle_frame (s : State) (before : State) :
    (s.settle before).pending = s.pending ∧ (s.settle before).free = s.free ∧
    (s.settle before).clock = s.clock ∧ (s.settle before).supply.part = s.supply.part ∧
    (s.settle before).supply.mainPresent = s.supply.mainPresent ∧
    (s.settle before).supply.backupPresent = s.supply.backupPresent ∧
    (s.settle before).supply.stableWait = s.supply.stableWait ∧
    (s.settle before).supply.resetPin = s.supply.resetPin ∧
    (s.settle before).supply.resetTime = s.supply.resetTime ∧
    (s.settle before).supply.domainHeld = s.supply.domainHeld ∧
    (s.settle before).supply.retainedValid = s.supply.retainedValid ∧
    (s.settle before).supply.coldOutcome = s.supply.coldOutcome ∧
    (s.settle before).supply.powerLoss = s.supply.powerLoss ∧ (s.settle before).mem = s.mem ∧
    (s.settle before).accounts = s.accounts ∧ (s.settle before).compartments = s.compartments ∧
    (s.settle before).stop = s.stop ∧ (s.settle before).cadence = s.cadence ∧
    (s.settle before).assembler = s.assembler ∧ (s.settle before).receipt = s.receipt ∧
    (s.settle before).queue = s.queue ∧ (s.settle before).writer = s.writer ∧
    (s.settle before).setup = s.setup ∧ (s.settle before).scanner = s.scanner ∧
    (s.settle before).alert.latched = s.alert.latched ∧
    (s.settle before).alert.counters = s.alert.counters ∧
    (s.settle before).alert.echo = s.alert.echo ∧ (s.settle before).alert.view = s.alert.view ∧
    (s.settle before).status.gen = s.status.gen ∧
    (s.settle before).status.rewrite = s.status.rewrite ∧ (s.settle before).arbiter = s.arbiter ∧
    (s.settle before).port = s.port ∧ (s.settle before).rejected = s.rejected := by
  simp [State.settle]

/-- What `memWrite` leaves as it was. -/
@[simp] theorem State.memWrite_frame (s : State) (m : MemAnswer) (a : Nat) (w : Word) :
    (s.memWrite m a w).pending = s.pending ∧ (s.memWrite m a w).clock = s.clock ∧
    (s.memWrite m a w).supply = s.supply ∧ (s.memWrite m a w).accounts = s.accounts ∧
    (s.memWrite m a w).compartments = s.compartments ∧ (s.memWrite m a w).stop = s.stop ∧
    (s.memWrite m a w).cadence = s.cadence ∧ (s.memWrite m a w).assembler = s.assembler ∧
    (s.memWrite m a w).receipt = s.receipt ∧ (s.memWrite m a w).queue = s.queue ∧
    (s.memWrite m a w).writer = s.writer ∧ (s.memWrite m a w).setup = s.setup ∧
    (s.memWrite m a w).scanner = s.scanner ∧ (s.memWrite m a w).alert = s.alert ∧
    (s.memWrite m a w).status = s.status ∧ (s.memWrite m a w).arbiter = s.arbiter ∧
    (s.memWrite m a w).port = s.port ∧ (s.memWrite m a w).rejected = s.rejected := by
  cases m <;> simp [State.memWrite]

/-- What `memAbandon` leaves as it was. -/
@[simp] theorem State.memAbandon_frame (s : State) (a : Nat) (w : Word) :
    (s.memAbandon a w).pending = s.pending ∧ (s.memAbandon a w).clock = s.clock ∧
    (s.memAbandon a w).supply = s.supply ∧ (s.memAbandon a w).accounts = s.accounts ∧
    (s.memAbandon a w).compartments = s.compartments ∧ (s.memAbandon a w).stop = s.stop ∧
    (s.memAbandon a w).cadence = s.cadence ∧ (s.memAbandon a w).assembler = s.assembler ∧
    (s.memAbandon a w).receipt = s.receipt ∧ (s.memAbandon a w).queue = s.queue ∧
    (s.memAbandon a w).writer = s.writer ∧ (s.memAbandon a w).setup = s.setup ∧
    (s.memAbandon a w).scanner = s.scanner ∧ (s.memAbandon a w).alert = s.alert ∧
    (s.memAbandon a w).status = s.status ∧ (s.memAbandon a w).arbiter = s.arbiter ∧
    (s.memAbandon a w).port = s.port ∧ (s.memAbandon a w).rejected = s.rejected := by
  unfold State.memAbandon; split <;> simp

/-- What `setAccount` leaves as it was. -/
@[simp] theorem State.setAccount_frame (s : State) (slot : Nat) (e : Entry) :
    (s.setAccount slot e).pending = s.pending ∧ (s.setAccount slot e).free = s.free ∧
    (s.setAccount slot e).clock = s.clock ∧ (s.setAccount slot e).supply = s.supply ∧
    (s.setAccount slot e).mem = s.mem ∧ (s.setAccount slot e).compartments = s.compartments ∧
    (s.setAccount slot e).stop = s.stop ∧ (s.setAccount slot e).cadence = s.cadence ∧
    (s.setAccount slot e).assembler = s.assembler ∧ (s.setAccount slot e).receipt = s.receipt ∧
    (s.setAccount slot e).queue = s.queue ∧ (s.setAccount slot e).writer = s.writer ∧
    (s.setAccount slot e).setup = s.setup ∧ (s.setAccount slot e).scanner = s.scanner ∧
    (s.setAccount slot e).alert = s.alert ∧ (s.setAccount slot e).status = s.status ∧
    (s.setAccount slot e).arbiter = s.arbiter ∧ (s.setAccount slot e).port = s.port ∧
    (s.setAccount slot e).rejected = s.rejected := by
  repeat' constructor

/-- What `lose` leaves as it was. -/
@[simp] theorem State.lose_frame (s : State) (q : QEntry) :
    (s.lose q).pending = s.pending ∧ (s.lose q).free = s.free ∧ (s.lose q).clock = s.clock ∧
    (s.lose q).supply = s.supply ∧ (s.lose q).mem = s.mem ∧
    (s.lose q).compartments = s.compartments ∧ (s.lose q).stop = s.stop ∧
    (s.lose q).cadence = s.cadence ∧ (s.lose q).assembler = s.assembler ∧
    (s.lose q).receipt = s.receipt ∧ (s.lose q).queue.entries = s.queue.entries ∧
    (s.lose q).writer = s.writer ∧ (s.lose q).setup = s.setup ∧ (s.lose q).scanner = s.scanner ∧
    (s.lose q).alert.echo = s.alert.echo ∧ (s.lose q).alert.view = s.alert.view ∧
    (s.lose q).alert.line = s.alert.line ∧ (s.lose q).status = s.status ∧
    (s.lose q).arbiter = s.arbiter ∧ (s.lose q).port = s.port ∧ (s.lose q).rejected = s.rejected := by
  simp [State.lose]

/-- What `produce` leaves as it was. -/
@[simp] theorem State.produce_frame (s : State) (q : QEntry) :
    (s.produce q).pending = s.pending ∧ (s.produce q).free = s.free ∧
    (s.produce q).clock = s.clock ∧ (s.produce q).supply = s.supply ∧ (s.produce q).mem = s.mem ∧
    (s.produce q).compartments = s.compartments ∧ (s.produce q).stop = s.stop ∧
    (s.produce q).cadence = s.cadence ∧ (s.produce q).assembler = s.assembler ∧
    (s.produce q).receipt = s.receipt ∧ (s.produce q).writer = s.writer ∧
    (s.produce q).setup = s.setup ∧ (s.produce q).scanner = s.scanner ∧
    (s.produce q).alert.echo = s.alert.echo ∧ (s.produce q).alert.view = s.alert.view ∧
    (s.produce q).alert.line = s.alert.line ∧ (s.produce q).status = s.status ∧
    (s.produce q).arbiter = s.arbiter ∧ (s.produce q).port = s.port ∧
    (s.produce q).rejected = s.rejected := by
  unfold State.produce; split <;> simp

/-- What `refuse` leaves as it was. -/
@[simp] theorem State.refuse_frame (s : State) (seq : Half) (r : ReportRefusal) :
    (s.refuse seq r).pending = s.pending ∧ (s.refuse seq r).free = s.free ∧
    (s.refuse seq r).clock = s.clock ∧ (s.refuse seq r).supply = s.supply ∧
    (s.refuse seq r).mem = s.mem ∧ (s.refuse seq r).accounts = s.accounts ∧
    (s.refuse seq r).compartments = s.compartments ∧ (s.refuse seq r).stop = s.stop ∧
    (s.refuse seq r).cadence = s.cadence ∧ (s.refuse seq r).assembler = s.assembler ∧
    (s.refuse seq r).receipt.recordedThrough = s.receipt.recordedThrough ∧
    (s.refuse seq r).receipt.mark = s.receipt.mark ∧ (s.refuse seq r).queue = s.queue ∧
    (s.refuse seq r).writer = s.writer ∧ (s.refuse seq r).setup = s.setup ∧
    (s.refuse seq r).scanner = s.scanner ∧ (s.refuse seq r).alert.echo = s.alert.echo ∧
    (s.refuse seq r).alert.view = s.alert.view ∧ (s.refuse seq r).alert.line = s.alert.line ∧
    (s.refuse seq r).status = s.status ∧ (s.refuse seq r).arbiter = s.arbiter ∧
    (s.refuse seq r).port = s.port ∧ (s.refuse seq r).rejected = s.rejected := by
  simp [State.refuse]

/-- What `take` leaves as it was. -/
@[simp] theorem State.take_frame (s : State) (seq : Half) :
    (s.take seq).pending = s.pending ∧ (s.take seq).free = s.free ∧ (s.take seq).clock = s.clock ∧
    (s.take seq).supply = s.supply ∧ (s.take seq).mem = s.mem ∧
    (s.take seq).accounts = s.accounts ∧ (s.take seq).compartments = s.compartments ∧
    (s.take seq).stop = s.stop ∧ (s.take seq).cadence = s.cadence ∧
    (s.take seq).assembler = s.assembler ∧ (s.take seq).queue = s.queue ∧
    (s.take seq).writer = s.writer ∧ (s.take seq).setup = s.setup ∧
    (s.take seq).scanner = s.scanner ∧ (s.take seq).alert = s.alert ∧
    (s.take seq).status = s.status ∧ (s.take seq).arbiter = s.arbiter ∧
    (s.take seq).port = s.port ∧ (s.take seq).rejected = s.rejected := by
  unfold State.take; repeat' constructor

/-- What `refuseAssembly` leaves as it was. -/
@[simp] theorem State.refuseAssembly_frame (s : State) (r : ReportRefusal) :
    (s.refuseAssembly r).pending = s.pending ∧ (s.refuseAssembly r).free = s.free ∧
    (s.refuseAssembly r).clock = s.clock ∧ (s.refuseAssembly r).supply = s.supply ∧
    (s.refuseAssembly r).mem = s.mem ∧ (s.refuseAssembly r).accounts = s.accounts ∧
    (s.refuseAssembly r).compartments = s.compartments ∧ (s.refuseAssembly r).stop = s.stop ∧
    (s.refuseAssembly r).cadence = s.cadence ∧
    (s.refuseAssembly r).assembler.waiting = s.assembler.waiting ∧
    (s.refuseAssembly r).assembler.handling = s.assembler.handling ∧
    (s.refuseAssembly r).receipt.recordedThrough = s.receipt.recordedThrough ∧
    (s.refuseAssembly r).receipt.mark = s.receipt.mark ∧ (s.refuseAssembly r).queue = s.queue ∧
    (s.refuseAssembly r).writer = s.writer ∧ (s.refuseAssembly r).setup = s.setup ∧
    (s.refuseAssembly r).scanner = s.scanner ∧ (s.refuseAssembly r).alert.echo = s.alert.echo ∧
    (s.refuseAssembly r).alert.view = s.alert.view ∧
    (s.refuseAssembly r).alert.line = s.alert.line ∧ (s.refuseAssembly r).status = s.status ∧
    (s.refuseAssembly r).arbiter = s.arbiter ∧ (s.refuseAssembly r).port = s.port ∧
    (s.refuseAssembly r).rejected = s.rejected := by
  unfold State.refuseAssembly; split <;> simp

/-- What `keepRejected` leaves as it was. -/
@[simp] theorem State.keepRejected_frame (s : State) (a : HostAccess) (r : RejectReason) :
    (s.keepRejected a r).pending = s.pending ∧ (s.keepRejected a r).free = s.free ∧
    (s.keepRejected a r).clock = s.clock ∧ (s.keepRejected a r).supply = s.supply ∧
    (s.keepRejected a r).mem = s.mem ∧ (s.keepRejected a r).accounts = s.accounts ∧
    (s.keepRejected a r).compartments = s.compartments ∧ (s.keepRejected a r).stop = s.stop ∧
    (s.keepRejected a r).cadence = s.cadence ∧ (s.keepRejected a r).assembler = s.assembler ∧
    (s.keepRejected a r).receipt = s.receipt ∧ (s.keepRejected a r).queue = s.queue ∧
    (s.keepRejected a r).writer = s.writer ∧ (s.keepRejected a r).setup = s.setup ∧
    (s.keepRejected a r).scanner = s.scanner ∧ (s.keepRejected a r).alert = s.alert ∧
    (s.keepRejected a r).status = s.status ∧ (s.keepRejected a r).arbiter = s.arbiter ∧
    (s.keepRejected a r).port = s.port := by
  repeat' constructor

/-- What `accessError` leaves as it was. -/
@[simp] theorem State.accessError_frame (s : State) (a : HostAccess) (r : RejectReason) :
    (s.accessError a r).pending = s.pending ∧ (s.accessError a r).free = s.free ∧
    (s.accessError a r).clock = s.clock ∧ (s.accessError a r).supply = s.supply ∧
    (s.accessError a r).mem = s.mem ∧ (s.accessError a r).accounts = s.accounts ∧
    (s.accessError a r).compartments = s.compartments ∧ (s.accessError a r).stop = s.stop ∧
    (s.accessError a r).cadence = s.cadence ∧ (s.accessError a r).assembler = s.assembler ∧
    (s.accessError a r).receipt = s.receipt ∧ (s.accessError a r).queue = s.queue ∧
    (s.accessError a r).writer = s.writer ∧ (s.accessError a r).setup = s.setup ∧
    (s.accessError a r).scanner = s.scanner ∧ (s.accessError a r).alert.latched = s.alert.latched ∧
    (s.accessError a r).alert.echo = s.alert.echo ∧ (s.accessError a r).alert.view = s.alert.view ∧
    (s.accessError a r).alert.line = s.alert.line ∧ (s.accessError a r).status = s.status ∧
    (s.accessError a r).arbiter = s.arbiter ∧ (s.accessError a r).port = s.port := by
  repeat' constructor

/-- What `protectViolation` leaves as it was. -/
@[simp] theorem State.protectViolation_frame (s : State) (a : HostAccess) (r : RejectReason) :
    (s.protectViolation a r).pending = s.pending ∧ (s.protectViolation a r).free = s.free ∧
    (s.protectViolation a r).clock = s.clock ∧ (s.protectViolation a r).supply = s.supply ∧
    (s.protectViolation a r).mem = s.mem ∧ (s.protectViolation a r).accounts = s.accounts ∧
    (s.protectViolation a r).compartments = s.compartments ∧
    (s.protectViolation a r).stop = s.stop ∧ (s.protectViolation a r).cadence = s.cadence ∧
    (s.protectViolation a r).assembler = s.assembler ∧
    (s.protectViolation a r).receipt = s.receipt ∧ (s.protectViolation a r).queue = s.queue ∧
    (s.protectViolation a r).writer = s.writer ∧ (s.protectViolation a r).setup = s.setup ∧
    (s.protectViolation a r).scanner = s.scanner ∧
    (s.protectViolation a r).alert.echo = s.alert.echo ∧
    (s.protectViolation a r).alert.view = s.alert.view ∧
    (s.protectViolation a r).alert.line = s.alert.line ∧
    (s.protectViolation a r).status = s.status ∧ (s.protectViolation a r).arbiter = s.arbiter ∧
    (s.protectViolation a r).port = s.port := by
  repeat' constructor

/-- What `answer` leaves as it was. -/
@[simp] theorem State.answer_frame (s : State) (a : HostAccess) (r : Response) :
    (s.answer a r).pending = s.pending ∧ (s.answer a r).free = s.free ∧
    (s.answer a r).clock = s.clock ∧ (s.answer a r).supply = s.supply ∧
    (s.answer a r).mem = s.mem ∧ (s.answer a r).accounts = s.accounts ∧
    (s.answer a r).compartments = s.compartments ∧ (s.answer a r).stop = s.stop ∧
    (s.answer a r).cadence = s.cadence ∧ (s.answer a r).assembler = s.assembler ∧
    (s.answer a r).receipt = s.receipt ∧ (s.answer a r).queue = s.queue ∧
    (s.answer a r).writer = s.writer ∧ (s.answer a r).setup = s.setup ∧
    (s.answer a r).scanner = s.scanner ∧ (s.answer a r).alert = s.alert ∧
    (s.answer a r).status = s.status ∧ (s.answer a r).arbiter = s.arbiter ∧
    (s.answer a r).port.behind = s.port.behind ∧ (s.answer a r).rejected = s.rejected := by
  repeat' constructor

/-- What `askUpstream` leaves as it was. -/
@[simp] theorem State.askUpstream_frame (s : State) (a : HostAccess) (j : HostJob) :
    (s.askUpstream a j).pending = s.pending ∧ (s.askUpstream a j).free = s.free ∧
    (s.askUpstream a j).clock = s.clock ∧ (s.askUpstream a j).supply = s.supply ∧
    (s.askUpstream a j).mem = s.mem ∧ (s.askUpstream a j).accounts = s.accounts ∧
    (s.askUpstream a j).compartments = s.compartments ∧ (s.askUpstream a j).stop = s.stop ∧
    (s.askUpstream a j).cadence = s.cadence ∧ (s.askUpstream a j).assembler = s.assembler ∧
    (s.askUpstream a j).receipt = s.receipt ∧ (s.askUpstream a j).queue = s.queue ∧
    (s.askUpstream a j).writer = s.writer ∧ (s.askUpstream a j).setup = s.setup ∧
    (s.askUpstream a j).scanner = s.scanner ∧ (s.askUpstream a j).alert = s.alert ∧
    (s.askUpstream a j).status = s.status ∧ (s.askUpstream a j).arbiter.owner = s.arbiter.owner ∧
    (s.askUpstream a j).arbiter.lockout = s.arbiter.lockout ∧
    (s.askUpstream a j).arbiter.fairness = s.arbiter.fairness ∧
    (s.askUpstream a j).arbiter.writer = s.arbiter.writer ∧
    (s.askUpstream a j).arbiter.reader = s.arbiter.reader ∧
    (s.askUpstream a j).arbiter.status = s.arbiter.status ∧
    (s.askUpstream a j).port.behind = s.port.behind ∧
    (s.askUpstream a j).port.answers = s.port.answers ∧ (s.askUpstream a j).rejected = s.rejected := by
  repeat' constructor

/-- What `hold` leaves as it was. -/
@[simp] theorem State.hold_frame (s : State) (a : HostAccess) :
    (s.hold a).pending = s.pending ∧ (s.hold a).free = s.free ∧ (s.hold a).clock = s.clock ∧
    (s.hold a).supply = s.supply ∧ (s.hold a).mem = s.mem ∧ (s.hold a).accounts = s.accounts ∧
    (s.hold a).compartments = s.compartments ∧ (s.hold a).stop = s.stop ∧
    (s.hold a).cadence = s.cadence ∧ (s.hold a).assembler = s.assembler ∧
    (s.hold a).receipt = s.receipt ∧ (s.hold a).queue = s.queue ∧ (s.hold a).writer = s.writer ∧
    (s.hold a).setup = s.setup ∧ (s.hold a).scanner = s.scanner ∧ (s.hold a).alert = s.alert ∧
    (s.hold a).status = s.status ∧ (s.hold a).arbiter = s.arbiter ∧
    (s.hold a).port.behind = s.port.behind ∧ (s.hold a).port.answers = s.port.answers ∧
    (s.hold a).rejected = s.rejected := by
  repeat' constructor

/-- What `freePort` leaves as it was. -/
@[simp] theorem State.freePort_frame (s : State) :
    (s.freePort).pending = s.pending ∧ (s.freePort).free = s.free ∧ (s.freePort).clock = s.clock ∧
    (s.freePort).supply = s.supply ∧ (s.freePort).mem = s.mem ∧
    (s.freePort).accounts = s.accounts ∧ (s.freePort).compartments = s.compartments ∧
    (s.freePort).stop = s.stop ∧ (s.freePort).cadence = s.cadence ∧
    (s.freePort).assembler = s.assembler ∧ (s.freePort).receipt = s.receipt ∧
    (s.freePort).queue = s.queue ∧ (s.freePort).writer = s.writer ∧ (s.freePort).setup = s.setup ∧
    (s.freePort).scanner = s.scanner ∧ (s.freePort).alert = s.alert ∧
    (s.freePort).status = s.status ∧ (s.freePort).arbiter.lockout = s.arbiter.lockout ∧
    (s.freePort).arbiter.fairness = s.arbiter.fairness ∧
    (s.freePort).arbiter.upstream = s.arbiter.upstream ∧
    (s.freePort).arbiter.writer = s.arbiter.writer ∧
    (s.freePort).arbiter.reader = s.arbiter.reader ∧
    (s.freePort).arbiter.status = s.arbiter.status ∧ (s.freePort).port = s.port ∧
    (s.freePort).rejected = s.rejected := by
  repeat' constructor

/-- What `endLockout` leaves as it was. -/
@[simp] theorem State.endLockout_frame (s : State) :
    (s.endLockout).pending = s.pending ∧ (s.endLockout).free = s.free ∧
    (s.endLockout).clock = s.clock ∧ (s.endLockout).supply = s.supply ∧
    (s.endLockout).mem = s.mem ∧ (s.endLockout).accounts = s.accounts ∧
    (s.endLockout).compartments = s.compartments ∧ (s.endLockout).stop = s.stop ∧
    (s.endLockout).cadence = s.cadence ∧ (s.endLockout).assembler = s.assembler ∧
    (s.endLockout).receipt = s.receipt ∧ (s.endLockout).queue = s.queue ∧
    (s.endLockout).writer = s.writer ∧ (s.endLockout).setup = s.setup ∧
    (s.endLockout).scanner = s.scanner ∧ (s.endLockout).alert = s.alert ∧
    (s.endLockout).status = s.status ∧ (s.endLockout).arbiter.owner = s.arbiter.owner ∧
    (s.endLockout).arbiter.fairness = s.arbiter.fairness ∧
    (s.endLockout).arbiter.upstream = s.arbiter.upstream ∧
    (s.endLockout).arbiter.writer = s.arbiter.writer ∧
    (s.endLockout).arbiter.reader = s.arbiter.reader ∧
    (s.endLockout).arbiter.status = s.arbiter.status ∧ (s.endLockout).port = s.port ∧
    (s.endLockout).rejected = s.rejected := by
  repeat' constructor

/-- What `askWriter` leaves as it was. -/
@[simp] theorem State.askWriter_frame (s : State) :
    (s.askWriter).pending = s.pending ∧ (s.askWriter).free = s.free ∧
    (s.askWriter).clock = s.clock ∧ (s.askWriter).supply = s.supply ∧ (s.askWriter).mem = s.mem ∧
    (s.askWriter).accounts = s.accounts ∧ (s.askWriter).compartments = s.compartments ∧
    (s.askWriter).stop = s.stop ∧ (s.askWriter).cadence = s.cadence ∧
    (s.askWriter).assembler = s.assembler ∧ (s.askWriter).receipt = s.receipt ∧
    (s.askWriter).queue = s.queue ∧ (s.askWriter).writer = s.writer ∧
    (s.askWriter).setup = s.setup ∧ (s.askWriter).scanner = s.scanner ∧
    (s.askWriter).alert = s.alert ∧ (s.askWriter).status = s.status ∧
    (s.askWriter).arbiter.owner = s.arbiter.owner ∧
    (s.askWriter).arbiter.lockout = s.arbiter.lockout ∧
    (s.askWriter).arbiter.fairness = s.arbiter.fairness ∧
    (s.askWriter).arbiter.upstream = s.arbiter.upstream ∧
    (s.askWriter).arbiter.reader = s.arbiter.reader ∧
    (s.askWriter).arbiter.status = s.arbiter.status ∧ (s.askWriter).port = s.port ∧
    (s.askWriter).rejected = s.rejected := by
  repeat' constructor

/-- What `askReader` leaves as it was. -/
@[simp] theorem State.askReader_frame (s : State) (c : ReaderClient) :
    (s.askReader c).pending = s.pending ∧ (s.askReader c).free = s.free ∧
    (s.askReader c).clock = s.clock ∧ (s.askReader c).supply = s.supply ∧
    (s.askReader c).mem = s.mem ∧ (s.askReader c).accounts = s.accounts ∧
    (s.askReader c).compartments = s.compartments ∧ (s.askReader c).stop = s.stop ∧
    (s.askReader c).cadence = s.cadence ∧ (s.askReader c).assembler = s.assembler ∧
    (s.askReader c).receipt = s.receipt ∧ (s.askReader c).queue = s.queue ∧
    (s.askReader c).writer = s.writer ∧ (s.askReader c).setup = s.setup ∧
    (s.askReader c).scanner = s.scanner ∧ (s.askReader c).alert = s.alert ∧
    (s.askReader c).status = s.status ∧ (s.askReader c).arbiter.owner = s.arbiter.owner ∧
    (s.askReader c).arbiter.lockout = s.arbiter.lockout ∧
    (s.askReader c).arbiter.fairness = s.arbiter.fairness ∧
    (s.askReader c).arbiter.upstream = s.arbiter.upstream ∧
    (s.askReader c).arbiter.writer = s.arbiter.writer ∧
    (s.askReader c).arbiter.status = s.arbiter.status ∧ (s.askReader c).port = s.port ∧
    (s.askReader c).rejected = s.rejected := by
  repeat' constructor

/-- What `askStatus` leaves as it was. -/
@[simp] theorem State.askStatus_frame (s : State) :
    (s.askStatus).pending = s.pending ∧ (s.askStatus).free = s.free ∧
    (s.askStatus).clock = s.clock ∧ (s.askStatus).supply = s.supply ∧ (s.askStatus).mem = s.mem ∧
    (s.askStatus).accounts = s.accounts ∧ (s.askStatus).compartments = s.compartments ∧
    (s.askStatus).stop = s.stop ∧ (s.askStatus).cadence = s.cadence ∧
    (s.askStatus).assembler = s.assembler ∧ (s.askStatus).receipt = s.receipt ∧
    (s.askStatus).queue = s.queue ∧ (s.askStatus).writer = s.writer ∧
    (s.askStatus).setup = s.setup ∧ (s.askStatus).scanner = s.scanner ∧
    (s.askStatus).alert = s.alert ∧ (s.askStatus).status.gen = s.status.gen ∧
    (s.askStatus).status.demand = s.status.demand ∧ (s.askStatus).arbiter.owner = s.arbiter.owner ∧
    (s.askStatus).arbiter.lockout = s.arbiter.lockout ∧
    (s.askStatus).arbiter.fairness = s.arbiter.fairness ∧
    (s.askStatus).arbiter.upstream = s.arbiter.upstream ∧
    (s.askStatus).arbiter.writer = s.arbiter.writer ∧
    (s.askStatus).arbiter.reader = s.arbiter.reader ∧ (s.askStatus).port = s.port ∧
    (s.askStatus).rejected = s.rejected := by
  repeat' constructor

/-- What `fullRewrite` leaves as it was. -/
@[simp] theorem State.fullRewrite_frame (s : State) :
    (s.fullRewrite).pending = s.pending ∧ (s.fullRewrite).free = s.free ∧
    (s.fullRewrite).clock = s.clock ∧ (s.fullRewrite).supply = s.supply ∧
    (s.fullRewrite).mem = s.mem ∧ (s.fullRewrite).accounts = s.accounts ∧
    (s.fullRewrite).compartments = s.compartments ∧ (s.fullRewrite).stop = s.stop ∧
    (s.fullRewrite).cadence = s.cadence ∧ (s.fullRewrite).assembler = s.assembler ∧
    (s.fullRewrite).receipt = s.receipt ∧ (s.fullRewrite).queue = s.queue ∧
    (s.fullRewrite).writer = s.writer ∧ (s.fullRewrite).setup = s.setup ∧
    (s.fullRewrite).scanner = s.scanner ∧ (s.fullRewrite).alert = s.alert ∧
    (s.fullRewrite).status.gen = s.status.gen ∧ (s.fullRewrite).arbiter.owner = s.arbiter.owner ∧
    (s.fullRewrite).arbiter.lockout = s.arbiter.lockout ∧
    (s.fullRewrite).arbiter.fairness = s.arbiter.fairness ∧
    (s.fullRewrite).arbiter.upstream = s.arbiter.upstream ∧
    (s.fullRewrite).arbiter.writer = s.arbiter.writer ∧
    (s.fullRewrite).arbiter.reader = s.arbiter.reader ∧ (s.fullRewrite).port = s.port ∧
    (s.fullRewrite).rejected = s.rejected := by
  repeat' constructor

/-- What `raiseLoad` leaves as it was. -/
@[simp] theorem State.raiseLoad_frame (s : State) :
    (s.raiseLoad).pending = s.pending ∧ (s.raiseLoad).free = s.free ∧
    (s.raiseLoad).clock = s.clock ∧ (s.raiseLoad).supply = s.supply ∧ (s.raiseLoad).mem = s.mem ∧
    (s.raiseLoad).accounts = s.accounts ∧ (s.raiseLoad).compartments = s.compartments ∧
    (s.raiseLoad).stop = s.stop ∧ (s.raiseLoad).cadence = s.cadence ∧
    (s.raiseLoad).assembler = s.assembler ∧ (s.raiseLoad).receipt = s.receipt ∧
    (s.raiseLoad).queue = s.queue ∧ (s.raiseLoad).writer = s.writer ∧
    (s.raiseLoad).setup.inForce = s.setup.inForce ∧
    (s.raiseLoad).setup.heldRecord = s.setup.heldRecord ∧ (s.raiseLoad).scanner = s.scanner ∧
    (s.raiseLoad).alert = s.alert ∧ (s.raiseLoad).status = s.status ∧
    (s.raiseLoad).arbiter.owner = s.arbiter.owner ∧
    (s.raiseLoad).arbiter.lockout = s.arbiter.lockout ∧
    (s.raiseLoad).arbiter.fairness = s.arbiter.fairness ∧
    (s.raiseLoad).arbiter.upstream = s.arbiter.upstream ∧
    (s.raiseLoad).arbiter.writer = s.arbiter.writer ∧
    (s.raiseLoad).arbiter.status = s.arbiter.status ∧ (s.raiseLoad).port = s.port ∧
    (s.raiseLoad).rejected = s.rejected := by
  repeat' constructor

/-- What `snapshot` leaves as it was. -/
@[simp] theorem State.snapshot_frame (s : State) :
    (s.snapshot).pending = s.pending ∧ (s.snapshot).free = s.free ∧ (s.snapshot).clock = s.clock ∧
    (s.snapshot).supply = s.supply ∧ (s.snapshot).mem = s.mem ∧
    (s.snapshot).accounts = s.accounts ∧ (s.snapshot).compartments = s.compartments ∧
    (s.snapshot).stop = s.stop ∧ (s.snapshot).cadence = s.cadence ∧
    (s.snapshot).assembler = s.assembler ∧ (s.snapshot).receipt = s.receipt ∧
    (s.snapshot).queue = s.queue ∧ (s.snapshot).writer = s.writer ∧ (s.snapshot).setup = s.setup ∧
    (s.snapshot).scanner = s.scanner ∧ (s.snapshot).alert = s.alert ∧
    (s.snapshot).arbiter = s.arbiter ∧ (s.snapshot).port = s.port ∧
    (s.snapshot).rejected = s.rejected := by
  unfold State.snapshot; split <;> simp

/-- What `grantHolder` leaves as it was. -/
@[simp] theorem State.grantHolder_frame (s : State) (h : Lockout) :
    (s.grantHolder h).pending = s.pending ∧ (s.grantHolder h).free = s.free ∧
    (s.grantHolder h).clock = s.clock ∧ (s.grantHolder h).supply = s.supply ∧
    (s.grantHolder h).mem = s.mem ∧ (s.grantHolder h).accounts = s.accounts ∧
    (s.grantHolder h).compartments = s.compartments ∧ (s.grantHolder h).stop = s.stop ∧
    (s.grantHolder h).cadence = s.cadence ∧ (s.grantHolder h).assembler = s.assembler ∧
    (s.grantHolder h).receipt = s.receipt ∧ (s.grantHolder h).queue = s.queue ∧
    (s.grantHolder h).writer = s.writer ∧ (s.grantHolder h).setup = s.setup ∧
    (s.grantHolder h).scanner = s.scanner ∧ (s.grantHolder h).alert = s.alert ∧
    (s.grantHolder h).status = s.status ∧ (s.grantHolder h).arbiter.lockout = s.arbiter.lockout ∧
    (s.grantHolder h).arbiter.fairness = s.arbiter.fairness ∧
    (s.grantHolder h).arbiter.reader = s.arbiter.reader ∧
    (s.grantHolder h).arbiter.status = s.arbiter.status ∧ (s.grantHolder h).port = s.port ∧
    (s.grantHolder h).rejected = s.rejected := by
  unfold State.grantHolder; repeat' split <;> simp

/-- What `grantUpstream` leaves as it was. -/
@[simp] theorem State.grantUpstream_frame (s : State) :
    (s.grantUpstream).pending = s.pending ∧ (s.grantUpstream).free = s.free ∧
    (s.grantUpstream).clock = s.clock ∧ (s.grantUpstream).supply = s.supply ∧
    (s.grantUpstream).mem = s.mem ∧ (s.grantUpstream).accounts = s.accounts ∧
    (s.grantUpstream).compartments = s.compartments ∧ (s.grantUpstream).stop = s.stop ∧
    (s.grantUpstream).cadence = s.cadence ∧ (s.grantUpstream).assembler = s.assembler ∧
    (s.grantUpstream).receipt = s.receipt ∧ (s.grantUpstream).queue = s.queue ∧
    (s.grantUpstream).writer = s.writer ∧ (s.grantUpstream).setup = s.setup ∧
    (s.grantUpstream).scanner = s.scanner ∧ (s.grantUpstream).alert = s.alert ∧
    (s.grantUpstream).status = s.status ∧ (s.grantUpstream).port = s.port ∧
    (s.grantUpstream).rejected = s.rejected := by
  repeat' constructor

/-- What `grantInternal` leaves as it was. -/
@[simp] theorem State.grantInternal_frame (s : State) :
    (s.grantInternal).pending = s.pending ∧ (s.grantInternal).free = s.free ∧
    (s.grantInternal).clock = s.clock ∧ (s.grantInternal).supply = s.supply ∧
    (s.grantInternal).mem = s.mem ∧ (s.grantInternal).accounts = s.accounts ∧
    (s.grantInternal).compartments = s.compartments ∧ (s.grantInternal).stop = s.stop ∧
    (s.grantInternal).cadence = s.cadence ∧ (s.grantInternal).assembler = s.assembler ∧
    (s.grantInternal).receipt = s.receipt ∧ (s.grantInternal).queue = s.queue ∧
    (s.grantInternal).writer = s.writer ∧ (s.grantInternal).setup = s.setup ∧
    (s.grantInternal).scanner = s.scanner ∧ (s.grantInternal).alert = s.alert ∧
    (s.grantInternal).port = s.port ∧ (s.grantInternal).rejected = s.rejected := by
  unfold State.grantInternal; repeat' split
  all_goals simp

/-- What `arbitrate` leaves as it was. -/
@[simp] theorem State.arbitrate_frame (s : State) :
    (s.arbitrate).pending = s.pending ∧ (s.arbitrate).free = s.free ∧
    (s.arbitrate).clock = s.clock ∧ (s.arbitrate).supply = s.supply ∧ (s.arbitrate).mem = s.mem ∧
    (s.arbitrate).accounts = s.accounts ∧ (s.arbitrate).compartments = s.compartments ∧
    (s.arbitrate).stop = s.stop ∧ (s.arbitrate).cadence = s.cadence ∧
    (s.arbitrate).assembler = s.assembler ∧ (s.arbitrate).receipt = s.receipt ∧
    (s.arbitrate).queue = s.queue ∧ (s.arbitrate).writer = s.writer ∧
    (s.arbitrate).setup = s.setup ∧ (s.arbitrate).scanner = s.scanner ∧
    (s.arbitrate).alert = s.alert ∧ (s.arbitrate).port = s.port ∧
    (s.arbitrate).rejected = s.rejected := by
  unfold State.arbitrate; repeat' split
  all_goals simp

end Sys2Proof.Machine
end

