-- ==== Sys2Proof/Laws/Ports.lean ====
section
/-! SUPPORT. What the access filter and the end of an operation at the ports leave as it was. -/

namespace Sys2Proof.Machine

/-- What `acknowledge` leaves as it was. -/
@[simp] theorem State.acknowledge_frame (s : State) (data : Word) :
    (s.acknowledge data).pending = s.pending ∧ (s.acknowledge data).free = s.free ∧
    (s.acknowledge data).clock = s.clock ∧ (s.acknowledge data).supply = s.supply ∧
    (s.acknowledge data).mem = s.mem ∧ (s.acknowledge data).accounts = s.accounts ∧
    (s.acknowledge data).compartments = s.compartments ∧ (s.acknowledge data).stop = s.stop ∧
    (s.acknowledge data).cadence = s.cadence ∧ (s.acknowledge data).assembler = s.assembler ∧
    (s.acknowledge data).receipt = s.receipt ∧ (s.acknowledge data).queue = s.queue ∧
    (s.acknowledge data).writer.log = s.writer.log ∧
    (s.acknowledge data).writer.chain = s.writer.chain ∧
    (s.acknowledge data).writer.nearFull = s.writer.nearFull ∧
    (s.acknowledge data).setup = s.setup ∧ (s.acknowledge data).scanner = s.scanner ∧
    (s.acknowledge data).alert.view = s.alert.view ∧
    (s.acknowledge data).alert.line = s.alert.line ∧
    (s.acknowledge data).status.gen = s.status.gen ∧
    (s.acknowledge data).status.rewrite = s.status.rewrite ∧
    (s.acknowledge data).arbiter = s.arbiter ∧ (s.acknowledge data).port = s.port ∧
    (s.acknowledge data).rejected = s.rejected := by
  repeat' constructor

/-- What `narrowWindow` leaves as it was. -/
@[simp] theorem State.narrowWindow_frame (s : State) (a : HostAccess) :
    (s.narrowWindow a).pending = s.pending ∧ (s.narrowWindow a).free = s.free ∧
    (s.narrowWindow a).clock = s.clock ∧ (s.narrowWindow a).supply = s.supply ∧
    (s.narrowWindow a).mem = s.mem ∧ (s.narrowWindow a).accounts = s.accounts ∧
    (s.narrowWindow a).compartments = s.compartments ∧ (s.narrowWindow a).stop = s.stop ∧
    (s.narrowWindow a).cadence = s.cadence ∧
    (s.narrowWindow a).assembler.waiting = s.assembler.waiting ∧
    (s.narrowWindow a).assembler.handling = s.assembler.handling ∧
    (s.narrowWindow a).receipt.recordedThrough = s.receipt.recordedThrough ∧
    (s.narrowWindow a).receipt.mark = s.receipt.mark ∧ (s.narrowWindow a).queue = s.queue ∧
    (s.narrowWindow a).writer = s.writer ∧ (s.narrowWindow a).setup = s.setup ∧
    (s.narrowWindow a).scanner = s.scanner ∧ (s.narrowWindow a).alert.echo = s.alert.echo ∧
    (s.narrowWindow a).alert.view = s.alert.view ∧ (s.narrowWindow a).alert.line = s.alert.line ∧
    (s.narrowWindow a).status = s.status ∧ (s.narrowWindow a).arbiter = s.arbiter ∧
    (s.narrowWindow a).port.behind = s.port.behind := by
  simp [State.narrowWindow]

/-- What `refuseAccess` leaves as it was. -/
@[simp] theorem State.refuseAccess_frame (s : State) (a : HostAccess) (r : RejectReason) :
    (s.refuseAccess a r).pending = s.pending ∧ (s.refuseAccess a r).free = s.free ∧
    (s.refuseAccess a r).clock = s.clock ∧ (s.refuseAccess a r).supply = s.supply ∧
    (s.refuseAccess a r).mem = s.mem ∧ (s.refuseAccess a r).accounts = s.accounts ∧
    (s.refuseAccess a r).compartments = s.compartments ∧ (s.refuseAccess a r).stop = s.stop ∧
    (s.refuseAccess a r).cadence = s.cadence ∧ (s.refuseAccess a r).assembler = s.assembler ∧
    (s.refuseAccess a r).receipt = s.receipt ∧ (s.refuseAccess a r).queue = s.queue ∧
    (s.refuseAccess a r).writer = s.writer ∧ (s.refuseAccess a r).setup = s.setup ∧
    (s.refuseAccess a r).scanner = s.scanner ∧
    (s.refuseAccess a r).alert.latched = s.alert.latched ∧
    (s.refuseAccess a r).alert.echo = s.alert.echo ∧
    (s.refuseAccess a r).alert.view = s.alert.view ∧
    (s.refuseAccess a r).alert.line = s.alert.line ∧ (s.refuseAccess a r).status = s.status ∧
    (s.refuseAccess a r).arbiter = s.arbiter ∧ (s.refuseAccess a r).port.behind = s.port.behind := by
  simp [State.refuseAccess]

/-- What `judgeFullWrite` leaves as it was. -/
@[simp] theorem State.judgeFullWrite_frame (s : State) (a : HostAccess) (r : Region) :
    (s.judgeFullWrite a r).pending = s.pending ∧ (s.judgeFullWrite a r).free = s.free ∧
    (s.judgeFullWrite a r).clock = s.clock ∧ (s.judgeFullWrite a r).supply = s.supply ∧
    (s.judgeFullWrite a r).mem = s.mem ∧ (s.judgeFullWrite a r).accounts = s.accounts ∧
    (s.judgeFullWrite a r).compartments = s.compartments ∧ (s.judgeFullWrite a r).stop = s.stop ∧
    (s.judgeFullWrite a r).cadence = s.cadence ∧
    (s.judgeFullWrite a r).assembler.waiting = s.assembler.waiting ∧
    (s.judgeFullWrite a r).assembler.handling = s.assembler.handling ∧
    (s.judgeFullWrite a r).receipt.recordedThrough = s.receipt.recordedThrough ∧
    (s.judgeFullWrite a r).receipt.mark = s.receipt.mark ∧ (s.judgeFullWrite a r).queue = s.queue ∧
    (s.judgeFullWrite a r).writer.log = s.writer.log ∧
    (s.judgeFullWrite a r).writer.chain = s.writer.chain ∧
    (s.judgeFullWrite a r).writer.nearFull = s.writer.nearFull ∧
    (s.judgeFullWrite a r).setup = s.setup ∧ (s.judgeFullWrite a r).scanner = s.scanner ∧
    (s.judgeFullWrite a r).alert.view = s.alert.view ∧
    (s.judgeFullWrite a r).alert.line = s.alert.line ∧
    (s.judgeFullWrite a r).status.gen = s.status.gen ∧
    (s.judgeFullWrite a r).status.rewrite = s.status.rewrite ∧
    (s.judgeFullWrite a r).arbiter.owner = s.arbiter.owner ∧
    (s.judgeFullWrite a r).arbiter.lockout = s.arbiter.lockout ∧
    (s.judgeFullWrite a r).arbiter.fairness = s.arbiter.fairness ∧
    (s.judgeFullWrite a r).arbiter.writer = s.arbiter.writer ∧
    (s.judgeFullWrite a r).arbiter.reader = s.arbiter.reader ∧
    (s.judgeFullWrite a r).arbiter.status = s.arbiter.status ∧
    (s.judgeFullWrite a r).port.behind = s.port.behind := by
  unfold State.judgeFullWrite; repeat' split
  all_goals simp

/-- What `judgeNarrowWrite` leaves as it was. -/
@[simp] theorem State.judgeNarrowWrite_frame (s : State) (a : HostAccess) (r : Region) :
    (s.judgeNarrowWrite a r).pending = s.pending ∧ (s.judgeNarrowWrite a r).free = s.free ∧
    (s.judgeNarrowWrite a r).clock = s.clock ∧ (s.judgeNarrowWrite a r).supply = s.supply ∧
    (s.judgeNarrowWrite a r).mem = s.mem ∧ (s.judgeNarrowWrite a r).accounts = s.accounts ∧
    (s.judgeNarrowWrite a r).compartments = s.compartments ∧
    (s.judgeNarrowWrite a r).stop = s.stop ∧ (s.judgeNarrowWrite a r).cadence = s.cadence ∧
    (s.judgeNarrowWrite a r).assembler.waiting = s.assembler.waiting ∧
    (s.judgeNarrowWrite a r).assembler.handling = s.assembler.handling ∧
    (s.judgeNarrowWrite a r).receipt.recordedThrough = s.receipt.recordedThrough ∧
    (s.judgeNarrowWrite a r).receipt.mark = s.receipt.mark ∧
    (s.judgeNarrowWrite a r).queue = s.queue ∧ (s.judgeNarrowWrite a r).writer.log = s.writer.log ∧
    (s.judgeNarrowWrite a r).writer.chain = s.writer.chain ∧
    (s.judgeNarrowWrite a r).writer.nearFull = s.writer.nearFull ∧
    (s.judgeNarrowWrite a r).setup = s.setup ∧ (s.judgeNarrowWrite a r).scanner = s.scanner ∧
    (s.judgeNarrowWrite a r).alert.view = s.alert.view ∧
    (s.judgeNarrowWrite a r).alert.line = s.alert.line ∧
    (s.judgeNarrowWrite a r).status.gen = s.status.gen ∧
    (s.judgeNarrowWrite a r).status.rewrite = s.status.rewrite ∧
    (s.judgeNarrowWrite a r).arbiter.owner = s.arbiter.owner ∧
    (s.judgeNarrowWrite a r).arbiter.lockout = s.arbiter.lockout ∧
    (s.judgeNarrowWrite a r).arbiter.fairness = s.arbiter.fairness ∧
    (s.judgeNarrowWrite a r).arbiter.writer = s.arbiter.writer ∧
    (s.judgeNarrowWrite a r).arbiter.reader = s.arbiter.reader ∧
    (s.judgeNarrowWrite a r).arbiter.status = s.arbiter.status ∧
    (s.judgeNarrowWrite a r).port.behind = s.port.behind := by
  unfold State.judgeNarrowWrite; repeat' split
  all_goals simp

/-- What `judge` leaves as it was. -/
@[simp] theorem State.judge_frame (s : State) (a : HostAccess) :
    (s.judge a).pending = s.pending ∧ (s.judge a).free = s.free ∧ (s.judge a).clock = s.clock ∧
    (s.judge a).supply = s.supply ∧ (s.judge a).mem = s.mem ∧ (s.judge a).accounts = s.accounts ∧
    (s.judge a).compartments = s.compartments ∧ (s.judge a).stop = s.stop ∧
    (s.judge a).cadence = s.cadence ∧ (s.judge a).assembler.waiting = s.assembler.waiting ∧
    (s.judge a).assembler.handling = s.assembler.handling ∧
    (s.judge a).receipt.recordedThrough = s.receipt.recordedThrough ∧
    (s.judge a).receipt.mark = s.receipt.mark ∧ (s.judge a).queue = s.queue ∧
    (s.judge a).writer.log = s.writer.log ∧ (s.judge a).writer.chain = s.writer.chain ∧
    (s.judge a).writer.nearFull = s.writer.nearFull ∧ (s.judge a).setup = s.setup ∧
    (s.judge a).scanner = s.scanner ∧ (s.judge a).alert.view = s.alert.view ∧
    (s.judge a).alert.line = s.alert.line ∧ (s.judge a).status.gen = s.status.gen ∧
    (s.judge a).status.rewrite = s.status.rewrite ∧ (s.judge a).arbiter.owner = s.arbiter.owner ∧
    (s.judge a).arbiter.lockout = s.arbiter.lockout ∧
    (s.judge a).arbiter.fairness = s.arbiter.fairness ∧
    (s.judge a).arbiter.writer = s.arbiter.writer ∧ (s.judge a).arbiter.reader = s.arbiter.reader ∧
    (s.judge a).arbiter.status = s.arbiter.status ∧ (s.judge a).port.behind = s.port.behind := by
  unfold State.judge; repeat' split
  all_goals simp

/-- What `judgeHeld` leaves as it was. -/
@[simp] theorem State.judgeHeld_frame (s : State) :
    (s.judgeHeld).pending = s.pending ∧ (s.judgeHeld).free = s.free ∧
    (s.judgeHeld).clock = s.clock ∧ (s.judgeHeld).supply = s.supply ∧ (s.judgeHeld).mem = s.mem ∧
    (s.judgeHeld).accounts = s.accounts ∧ (s.judgeHeld).compartments = s.compartments ∧
    (s.judgeHeld).stop = s.stop ∧ (s.judgeHeld).cadence = s.cadence ∧
    (s.judgeHeld).assembler.waiting = s.assembler.waiting ∧
    (s.judgeHeld).assembler.handling = s.assembler.handling ∧
    (s.judgeHeld).receipt.recordedThrough = s.receipt.recordedThrough ∧
    (s.judgeHeld).receipt.mark = s.receipt.mark ∧ (s.judgeHeld).queue = s.queue ∧
    (s.judgeHeld).writer.log = s.writer.log ∧ (s.judgeHeld).writer.chain = s.writer.chain ∧
    (s.judgeHeld).writer.nearFull = s.writer.nearFull ∧ (s.judgeHeld).setup = s.setup ∧
    (s.judgeHeld).scanner = s.scanner ∧ (s.judgeHeld).alert.view = s.alert.view ∧
    (s.judgeHeld).alert.line = s.alert.line ∧ (s.judgeHeld).status.gen = s.status.gen ∧
    (s.judgeHeld).status.rewrite = s.status.rewrite ∧
    (s.judgeHeld).arbiter.owner = s.arbiter.owner ∧
    (s.judgeHeld).arbiter.lockout = s.arbiter.lockout ∧
    (s.judgeHeld).arbiter.fairness = s.arbiter.fairness ∧
    (s.judgeHeld).arbiter.writer = s.arbiter.writer ∧
    (s.judgeHeld).arbiter.reader = s.arbiter.reader ∧
    (s.judgeHeld).arbiter.status = s.arbiter.status ∧ (s.judgeHeld).port.behind = s.port.behind := by
  unfold State.judgeHeld; split <;> simp

/-- What taking the accesses behind leaves as it was. -/
@[simp] theorem takeBehind_frame (as : List HostAccess) (s : State) :
    (takeBehind as s).pending = s.pending ∧ (takeBehind as s).free = s.free ∧
    (takeBehind as s).clock = s.clock ∧ (takeBehind as s).supply = s.supply ∧
    (takeBehind as s).mem = s.mem ∧ (takeBehind as s).accounts = s.accounts ∧
    (takeBehind as s).compartments = s.compartments ∧ (takeBehind as s).stop = s.stop ∧
    (takeBehind as s).cadence = s.cadence ∧
    (takeBehind as s).assembler.waiting = s.assembler.waiting ∧
    (takeBehind as s).assembler.handling = s.assembler.handling ∧
    (takeBehind as s).receipt.recordedThrough = s.receipt.recordedThrough ∧
    (takeBehind as s).receipt.mark = s.receipt.mark ∧ (takeBehind as s).queue = s.queue ∧
    (takeBehind as s).writer.log = s.writer.log ∧ (takeBehind as s).writer.chain = s.writer.chain ∧
    (takeBehind as s).writer.nearFull = s.writer.nearFull ∧ (takeBehind as s).setup = s.setup ∧
    (takeBehind as s).scanner = s.scanner ∧ (takeBehind as s).alert.view = s.alert.view ∧
    (takeBehind as s).alert.line = s.alert.line ∧ (takeBehind as s).status.gen = s.status.gen ∧
    (takeBehind as s).status.rewrite = s.status.rewrite ∧
    (takeBehind as s).arbiter.owner = s.arbiter.owner ∧
    (takeBehind as s).arbiter.lockout = s.arbiter.lockout ∧
    (takeBehind as s).arbiter.fairness = s.arbiter.fairness ∧
    (takeBehind as s).arbiter.writer = s.arbiter.writer ∧
    (takeBehind as s).arbiter.reader = s.arbiter.reader ∧
    (takeBehind as s).arbiter.status = s.arbiter.status := by
  induction as generalizing s with
  | nil => repeat' constructor
  | cons a rest ih =>
    unfold takeBehind
    split
    · repeat' constructor
    · simp [ih]

/-- What waits behind plays no part in the judgement of an access (R145). -/
theorem State.judge_behind (s : State) (a : HostAccess) (b : List HostAccess) :
    State.judge { s with port := { s.port with behind := b } } a =
      { s.judge a with port := { (s.judge a).port with behind := b } } := by
  have hw : State.writable { s with port := { s.port with behind := b } } = s.writable := rfl
  have hm : State.mustHold { s with port := { s.port with behind := b } } a = s.mustHold a := rfl
  unfold State.judge
  rw [hm]
  dsimp only
  split
  · rfl
  · split
    · rfl
    · split
      · rfl
      · cases a.dir <;> cases a.width <;> simp only [State.judgeFullWrite, State.judgeNarrowWrite, hw]
        all_goals first
          | rfl
          | (cases regionOf s.setup.inForce a.addr.toNat <;> simp only [] <;>
              first
                | rfl
                | (unfold State.narrowWindow State.refuseAssembly
                   dsimp only [State.accessError, State.keepRejected]
                   cases s.assembler.collecting <;> rfl)
                | (split <;> rfl))

/-- The accesses given are taken in turn whatever list the port showed before (R142). -/
theorem takeBehind_behind (as : List HostAccess) (s : State) (b : List HostAccess) :
    takeBehind as { s with port := { s.port with behind := b } } = takeBehind as s := by
  induction as generalizing s b with
  | nil => rfl
  | cons a rest ih =>
    unfold takeBehind
    rcases h : s.port.current with _ | c <;> dsimp only
    exact (congrArg (takeBehind rest) (s.judge_behind a b)).trans (ih _ b)

/-- Behind an access that the port carries nothing is taken (R142). -/
theorem takeBehind_busy {s : State} {c : Carried} (h : s.port.current = some c) :
    takeBehind s.port.behind s = s := by
  obtain ⟨⟩ := s
  rename_i p _
  obtain ⟨_, b, _⟩ := p
  cases b with
  | nil => rfl
  | cons a rest => unfold takeBehind; dsimp only at h ⊢; rw [h]

/-- What `pump` leaves as it was. -/
@[simp] theorem State.pump_frame (s : State) :
    (s.pump).pending = s.pending ∧ (s.pump).free = s.free ∧ (s.pump).clock = s.clock ∧
    (s.pump).supply = s.supply ∧ (s.pump).mem = s.mem ∧ (s.pump).accounts = s.accounts ∧
    (s.pump).compartments = s.compartments ∧ (s.pump).stop = s.stop ∧
    (s.pump).cadence = s.cadence ∧ (s.pump).assembler.waiting = s.assembler.waiting ∧
    (s.pump).assembler.handling = s.assembler.handling ∧
    (s.pump).receipt.recordedThrough = s.receipt.recordedThrough ∧
    (s.pump).receipt.mark = s.receipt.mark ∧ (s.pump).queue = s.queue ∧
    (s.pump).writer.log = s.writer.log ∧ (s.pump).writer.chain = s.writer.chain ∧
    (s.pump).writer.nearFull = s.writer.nearFull ∧ (s.pump).setup = s.setup ∧
    (s.pump).scanner = s.scanner ∧ (s.pump).alert.view = s.alert.view ∧
    (s.pump).alert.line = s.alert.line ∧ (s.pump).status.gen = s.status.gen ∧
    (s.pump).status.rewrite = s.status.rewrite ∧ (s.pump).arbiter.owner = s.arbiter.owner ∧
    (s.pump).arbiter.lockout = s.arbiter.lockout ∧ (s.pump).arbiter.fairness = s.arbiter.fairness ∧
    (s.pump).arbiter.writer = s.arbiter.writer ∧ (s.pump).arbiter.reader = s.arbiter.reader ∧
    (s.pump).arbiter.status = s.arbiter.status := by
  simp [State.pump]

/-- What `settlePorts` leaves as it was. -/
@[simp] theorem State.settlePorts_frame (s : State) (before : State) :
    (s.settlePorts before).pending = s.pending ∧ (s.settlePorts before).free = s.free ∧
    (s.settlePorts before).clock = s.clock ∧ (s.settlePorts before).supply.part = s.supply.part ∧
    (s.settlePorts before).supply.mainPresent = s.supply.mainPresent ∧
    (s.settlePorts before).supply.backupPresent = s.supply.backupPresent ∧
    (s.settlePorts before).supply.stableWait = s.supply.stableWait ∧
    (s.settlePorts before).supply.resetPin = s.supply.resetPin ∧
    (s.settlePorts before).supply.resetTime = s.supply.resetTime ∧
    (s.settlePorts before).supply.domainHeld = s.supply.domainHeld ∧
    (s.settlePorts before).supply.retainedValid = s.supply.retainedValid ∧
    (s.settlePorts before).supply.coldOutcome = s.supply.coldOutcome ∧
    (s.settlePorts before).supply.powerLoss = s.supply.powerLoss ∧
    (s.settlePorts before).mem = s.mem ∧ (s.settlePorts before).accounts = s.accounts ∧
    (s.settlePorts before).compartments = s.compartments ∧ (s.settlePorts before).stop = s.stop ∧
    (s.settlePorts before).cadence = s.cadence ∧
    (s.settlePorts before).assembler.waiting = s.assembler.waiting ∧
    (s.settlePorts before).assembler.handling = s.assembler.handling ∧
    (s.settlePorts before).receipt.recordedThrough = s.receipt.recordedThrough ∧
    (s.settlePorts before).receipt.mark = s.receipt.mark ∧ (s.settlePorts before).queue = s.queue ∧
    (s.settlePorts before).writer.log = s.writer.log ∧
    (s.settlePorts before).writer.chain = s.writer.chain ∧
    (s.settlePorts before).writer.nearFull = s.writer.nearFull ∧
    (s.settlePorts before).setup = s.setup ∧ (s.settlePorts before).scanner = s.scanner ∧
    (s.settlePorts before).alert.view = s.alert.view := by
  simp [State.settlePorts]

end Sys2Proof.Machine
end

