-- ==== Sys2Proof/Laws/Effects.lean ====
section
/-! SUPPORT. What each operation of the report handlers, the account table and the deadlines leaves as it
was. -/

namespace Sys2Proof.Machine

/-- What every step of a fold keeps, the fold keeps. -/
theorem foldl_keep {α β : Type} (g : State → β) {f : State → α → State}
    (h : ∀ s a, g (f s a) = g s) (l : List α) (s : State) : g (l.foldl f s) = g s := by
  induction l generalizing s with
  | nil => rfl
  | cons a l ih => rw [List.foldl_cons, ih, h]

/-- What `addMissed` leaves as it was. -/
@[simp] theorem State.addMissed_frame (s : State) (n : Nat) :
    (s.addMissed n).pending = s.pending ∧ (s.addMissed n).free = s.free ∧
    (s.addMissed n).clock = s.clock ∧ (s.addMissed n).supply = s.supply ∧
    (s.addMissed n).mem = s.mem ∧ (s.addMissed n).accounts = s.accounts ∧
    (s.addMissed n).compartments = s.compartments ∧ (s.addMissed n).stop = s.stop ∧
    (s.addMissed n).cadence = s.cadence ∧ (s.addMissed n).assembler = s.assembler ∧
    (s.addMissed n).receipt = s.receipt ∧ (s.addMissed n).queue = s.queue ∧
    (s.addMissed n).writer = s.writer ∧ (s.addMissed n).setup = s.setup ∧
    (s.addMissed n).scanner = s.scanner ∧ (s.addMissed n).alert.latched = s.alert.latched ∧
    (s.addMissed n).alert.echo = s.alert.echo ∧ (s.addMissed n).alert.view = s.alert.view ∧
    (s.addMissed n).alert.line = s.alert.line ∧ (s.addMissed n).status = s.status ∧
    (s.addMissed n).arbiter = s.arbiter ∧ (s.addMissed n).port = s.port ∧
    (s.addMissed n).rejected = s.rejected := by
  repeat' constructor

/-- What `acceptReading` leaves as it was. -/
@[simp] theorem State.acceptReading_frame (s : State) (seq : Half) :
    (s.acceptReading seq).pending = s.pending ∧ (s.acceptReading seq).free = s.free ∧
    (s.acceptReading seq).clock = s.clock ∧ (s.acceptReading seq).supply = s.supply ∧
    (s.acceptReading seq).mem = s.mem ∧ (s.acceptReading seq).accounts = s.accounts ∧
    (s.acceptReading seq).compartments = s.compartments ∧ (s.acceptReading seq).stop = s.stop ∧
    (s.acceptReading seq).assembler = s.assembler ∧ (s.acceptReading seq).receipt = s.receipt ∧
    (s.acceptReading seq).queue = s.queue ∧ (s.acceptReading seq).writer = s.writer ∧
    (s.acceptReading seq).setup = s.setup ∧ (s.acceptReading seq).scanner = s.scanner ∧
    (s.acceptReading seq).alert.latched = s.alert.latched ∧
    (s.acceptReading seq).alert.echo = s.alert.echo ∧
    (s.acceptReading seq).alert.view = s.alert.view ∧
    (s.acceptReading seq).alert.line = s.alert.line ∧ (s.acceptReading seq).status = s.status ∧
    (s.acceptReading seq).arbiter = s.arbiter ∧ (s.acceptReading seq).port = s.port ∧
    (s.acceptReading seq).rejected = s.rejected := by
  repeat' constructor

/-- What `expireCadence` leaves as it was. -/
@[simp] theorem State.expireCadence_frame (s : State) :
    (s.expireCadence).pending = s.pending ∧ (s.expireCadence).free = s.free ∧
    (s.expireCadence).clock = s.clock ∧ (s.expireCadence).supply = s.supply ∧
    (s.expireCadence).mem = s.mem ∧ (s.expireCadence).accounts = s.accounts ∧
    (s.expireCadence).compartments = s.compartments ∧ (s.expireCadence).stop = s.stop ∧
    (s.expireCadence).assembler = s.assembler ∧ (s.expireCadence).receipt = s.receipt ∧
    (s.expireCadence).queue = s.queue ∧ (s.expireCadence).writer = s.writer ∧
    (s.expireCadence).setup = s.setup ∧ (s.expireCadence).scanner = s.scanner ∧
    (s.expireCadence).alert.echo = s.alert.echo ∧ (s.expireCadence).alert.view = s.alert.view ∧
    (s.expireCadence).alert.line = s.alert.line ∧ (s.expireCadence).status = s.status ∧
    (s.expireCadence).arbiter = s.arbiter ∧ (s.expireCadence).port = s.port ∧
    (s.expireCadence).rejected = s.rejected := by
  unfold State.expireCadence; repeat' split
  all_goals simp

/-- What `updateCompartment` leaves as it was. -/
@[simp] theorem State.updateCompartment_frame (s : State) (r : Report) (k : Nat) :
    (s.updateCompartment r k).pending = s.pending ∧ (s.updateCompartment r k).free = s.free ∧
    (s.updateCompartment r k).clock = s.clock ∧ (s.updateCompartment r k).supply = s.supply ∧
    (s.updateCompartment r k).mem = s.mem ∧ (s.updateCompartment r k).stop = s.stop ∧
    (s.updateCompartment r k).cadence = s.cadence ∧
    (s.updateCompartment r k).assembler = s.assembler ∧
    (s.updateCompartment r k).receipt = s.receipt ∧ (s.updateCompartment r k).writer = s.writer ∧
    (s.updateCompartment r k).setup = s.setup ∧ (s.updateCompartment r k).scanner = s.scanner ∧
    (s.updateCompartment r k).alert.echo = s.alert.echo ∧
    (s.updateCompartment r k).alert.view = s.alert.view ∧
    (s.updateCompartment r k).alert.line = s.alert.line ∧
    (s.updateCompartment r k).status = s.status ∧ (s.updateCompartment r k).arbiter = s.arbiter ∧
    (s.updateCompartment r k).port = s.port ∧ (s.updateCompartment r k).rejected = s.rejected := by
  unfold State.updateCompartment; split
  · simp
  · dsimp only; split <;> simp

/-- What `updateCompartments` leaves as it was. -/
@[simp] theorem State.updateCompartments_frame (s : State) (r : Report) :
    (s.updateCompartments r).pending = s.pending ∧ (s.updateCompartments r).free = s.free ∧
    (s.updateCompartments r).clock = s.clock ∧ (s.updateCompartments r).supply = s.supply ∧
    (s.updateCompartments r).mem = s.mem ∧ (s.updateCompartments r).stop = s.stop ∧
    (s.updateCompartments r).cadence = s.cadence ∧
    (s.updateCompartments r).assembler = s.assembler ∧
    (s.updateCompartments r).receipt = s.receipt ∧ (s.updateCompartments r).writer = s.writer ∧
    (s.updateCompartments r).setup = s.setup ∧ (s.updateCompartments r).scanner = s.scanner ∧
    (s.updateCompartments r).alert.echo = s.alert.echo ∧
    (s.updateCompartments r).alert.view = s.alert.view ∧
    (s.updateCompartments r).alert.line = s.alert.line ∧
    (s.updateCompartments r).status = s.status ∧ (s.updateCompartments r).arbiter = s.arbiter ∧
    (s.updateCompartments r).port = s.port ∧ (s.updateCompartments r).rejected = s.rejected := by
  simp only [State.updateCompartments, State.judgeUnitOff_frame]
  exact ⟨foldl_keep (fun t => t.pending) (fun _ _ => by simp) _ _,
    foldl_keep (fun t => t.free) (fun _ _ => by simp) _ _,
    foldl_keep (fun t => t.clock) (fun _ _ => by simp) _ _,
    foldl_keep (fun t => t.supply) (fun _ _ => by simp) _ _,
    foldl_keep (fun t => t.mem) (fun _ _ => by simp) _ _,
    foldl_keep (fun t => t.stop) (fun _ _ => by simp) _ _,
    foldl_keep (fun t => t.cadence) (fun _ _ => by simp) _ _,
    foldl_keep (fun t => t.assembler) (fun _ _ => by simp) _ _,
    foldl_keep (fun t => t.receipt) (fun _ _ => by simp) _ _,
    foldl_keep (fun t => t.writer) (fun _ _ => by simp) _ _,
    foldl_keep (fun t => t.setup) (fun _ _ => by simp) _ _,
    foldl_keep (fun t => t.scanner) (fun _ _ => by simp) _ _,
    foldl_keep (fun t => t.alert.echo) (fun _ _ => by simp) _ _,
    foldl_keep (fun t => t.alert.view) (fun _ _ => by simp) _ _,
    foldl_keep (fun t => t.alert.line) (fun _ _ => by simp) _ _,
    foldl_keep (fun t => t.status) (fun _ _ => by simp) _ _,
    foldl_keep (fun t => t.arbiter) (fun _ _ => by simp) _ _,
    foldl_keep (fun t => t.port) (fun _ _ => by simp) _ _,
    foldl_keep (fun t => t.rejected) (fun _ _ => by simp) _ _⟩

/-- What `searchGap` leaves as it was. -/
@[simp] theorem State.searchGap_frame (s : State) (p : Option Nat) (k : Nat) :
    (s.searchGap p k).pending = s.pending ∧ (s.searchGap p k).free = s.free ∧
    (s.searchGap p k).clock = s.clock ∧ (s.searchGap p k).supply = s.supply ∧
    (s.searchGap p k).mem = s.mem ∧ (s.searchGap p k).compartments = s.compartments ∧
    (s.searchGap p k).stop = s.stop ∧ (s.searchGap p k).cadence = s.cadence ∧
    (s.searchGap p k).assembler = s.assembler ∧ (s.searchGap p k).receipt = s.receipt ∧
    (s.searchGap p k).writer = s.writer ∧ (s.searchGap p k).setup = s.setup ∧
    (s.searchGap p k).scanner = s.scanner ∧ (s.searchGap p k).alert.echo = s.alert.echo ∧
    (s.searchGap p k).alert.view = s.alert.view ∧ (s.searchGap p k).alert.line = s.alert.line ∧
    (s.searchGap p k).status = s.status ∧ (s.searchGap p k).arbiter = s.arbiter ∧
    (s.searchGap p k).port = s.port ∧ (s.searchGap p k).rejected = s.rejected := by
  unfold State.searchGap; repeat' split
  all_goals simp

/-- What `searchGaps` leaves as it was. -/
@[simp] theorem State.searchGaps_frame (s : State) (p : List (Option Nat)) :
    (s.searchGaps p).pending = s.pending ∧ (s.searchGaps p).free = s.free ∧
    (s.searchGaps p).clock = s.clock ∧ (s.searchGaps p).supply = s.supply ∧
    (s.searchGaps p).mem = s.mem ∧ (s.searchGaps p).compartments = s.compartments ∧
    (s.searchGaps p).stop = s.stop ∧ (s.searchGaps p).cadence = s.cadence ∧
    (s.searchGaps p).assembler = s.assembler ∧ (s.searchGaps p).receipt = s.receipt ∧
    (s.searchGaps p).writer = s.writer ∧ (s.searchGaps p).setup = s.setup ∧
    (s.searchGaps p).scanner = s.scanner ∧ (s.searchGaps p).alert.echo = s.alert.echo ∧
    (s.searchGaps p).alert.view = s.alert.view ∧ (s.searchGaps p).alert.line = s.alert.line ∧
    (s.searchGaps p).status = s.status ∧ (s.searchGaps p).arbiter = s.arbiter ∧
    (s.searchGaps p).port = s.port ∧ (s.searchGaps p).rejected = s.rejected := by
  unfold State.searchGaps
  exact ⟨foldl_keep (fun t => t.pending) (fun _ _ => by simp) _ _,
    foldl_keep (fun t => t.free) (fun _ _ => by simp) _ _,
    foldl_keep (fun t => t.clock) (fun _ _ => by simp) _ _,
    foldl_keep (fun t => t.supply) (fun _ _ => by simp) _ _,
    foldl_keep (fun t => t.mem) (fun _ _ => by simp) _ _,
    foldl_keep (fun t => t.compartments) (fun _ _ => by simp) _ _,
    foldl_keep (fun t => t.stop) (fun _ _ => by simp) _ _,
    foldl_keep (fun t => t.cadence) (fun _ _ => by simp) _ _,
    foldl_keep (fun t => t.assembler) (fun _ _ => by simp) _ _,
    foldl_keep (fun t => t.receipt) (fun _ _ => by simp) _ _,
    foldl_keep (fun t => t.writer) (fun _ _ => by simp) _ _,
    foldl_keep (fun t => t.setup) (fun _ _ => by simp) _ _,
    foldl_keep (fun t => t.scanner) (fun _ _ => by simp) _ _,
    foldl_keep (fun t => t.alert.echo) (fun _ _ => by simp) _ _,
    foldl_keep (fun t => t.alert.view) (fun _ _ => by simp) _ _,
    foldl_keep (fun t => t.alert.line) (fun _ _ => by simp) _ _,
    foldl_keep (fun t => t.status) (fun _ _ => by simp) _ _,
    foldl_keep (fun t => t.arbiter) (fun _ _ => by simp) _ _,
    foldl_keep (fun t => t.port) (fun _ _ => by simp) _ _,
    foldl_keep (fun t => t.rejected) (fun _ _ => by simp) _ _⟩

/-- What `mapMachine` leaves as it was. -/
@[simp] theorem State.mapMachine_frame (s : State) (k : Nat) (n : MachineName) (f : Allowance → Allowance) :
    (s.mapMachine k n f).pending = s.pending ∧ (s.mapMachine k n f).free = s.free ∧
    (s.mapMachine k n f).clock = s.clock ∧ (s.mapMachine k n f).supply = s.supply ∧
    (s.mapMachine k n f).mem = s.mem ∧ (s.mapMachine k n f).accounts = s.accounts ∧
    (s.mapMachine k n f).stop = s.stop ∧ (s.mapMachine k n f).cadence = s.cadence ∧
    (s.mapMachine k n f).assembler = s.assembler ∧ (s.mapMachine k n f).receipt = s.receipt ∧
    (s.mapMachine k n f).queue = s.queue ∧ (s.mapMachine k n f).writer = s.writer ∧
    (s.mapMachine k n f).setup = s.setup ∧ (s.mapMachine k n f).scanner = s.scanner ∧
    (s.mapMachine k n f).alert = s.alert ∧ (s.mapMachine k n f).status = s.status ∧
    (s.mapMachine k n f).arbiter = s.arbiter ∧ (s.mapMachine k n f).port = s.port ∧
    (s.mapMachine k n f).rejected = s.rejected := by
  unfold State.mapMachine; repeat' split
  all_goals simp

/-- What `queueEnded` leaves as it was. -/
@[simp] theorem State.queueEnded_frame (s : State) (slot : Nat) (ref : BitVec 64) (x : Option Excursion) :
    (s.queueEnded slot ref x).pending = s.pending ∧ (s.queueEnded slot ref x).free = s.free ∧
    (s.queueEnded slot ref x).clock = s.clock ∧ (s.queueEnded slot ref x).supply = s.supply ∧
    (s.queueEnded slot ref x).mem = s.mem ∧
    (s.queueEnded slot ref x).compartments = s.compartments ∧
    (s.queueEnded slot ref x).stop = s.stop ∧ (s.queueEnded slot ref x).cadence = s.cadence ∧
    (s.queueEnded slot ref x).assembler = s.assembler ∧
    (s.queueEnded slot ref x).receipt = s.receipt ∧ (s.queueEnded slot ref x).writer = s.writer ∧
    (s.queueEnded slot ref x).setup = s.setup ∧ (s.queueEnded slot ref x).scanner = s.scanner ∧
    (s.queueEnded slot ref x).alert.echo = s.alert.echo ∧
    (s.queueEnded slot ref x).alert.view = s.alert.view ∧
    (s.queueEnded slot ref x).alert.line = s.alert.line ∧
    (s.queueEnded slot ref x).status = s.status ∧ (s.queueEnded slot ref x).arbiter = s.arbiter ∧
    (s.queueEnded slot ref x).port = s.port ∧ (s.queueEnded slot ref x).rejected = s.rejected := by
  unfold State.queueEnded; repeat' split
  all_goals simp

/-- What `evaluateSlot` leaves as it was. -/
@[simp] theorem State.evaluateSlot_frame (s : State) (slot : Nat) :
    (s.evaluateSlot slot).pending = s.pending ∧ (s.evaluateSlot slot).free = s.free ∧
    (s.evaluateSlot slot).clock = s.clock ∧ (s.evaluateSlot slot).supply = s.supply ∧
    (s.evaluateSlot slot).mem = s.mem ∧ (s.evaluateSlot slot).compartments = s.compartments ∧
    (s.evaluateSlot slot).stop = s.stop ∧ (s.evaluateSlot slot).cadence = s.cadence ∧
    (s.evaluateSlot slot).assembler = s.assembler ∧ (s.evaluateSlot slot).receipt = s.receipt ∧
    (s.evaluateSlot slot).writer = s.writer ∧ (s.evaluateSlot slot).setup = s.setup ∧
    (s.evaluateSlot slot).scanner = s.scanner ∧ (s.evaluateSlot slot).alert.echo = s.alert.echo ∧
    (s.evaluateSlot slot).alert.view = s.alert.view ∧
    (s.evaluateSlot slot).alert.line = s.alert.line ∧ (s.evaluateSlot slot).status = s.status ∧
    (s.evaluateSlot slot).arbiter = s.arbiter ∧ (s.evaluateSlot slot).port = s.port ∧
    (s.evaluateSlot slot).rejected = s.rejected := by
  unfold State.evaluateSlot; repeat' split
  all_goals try dsimp only
  all_goals repeat' split
  all_goals simp

/-- What `openSlot` leaves as it was. -/
@[simp] theorem State.openSlot_frame (s : State) (slot : Nat) (c : Consignment) (k : Compartment) :
    (s.openSlot slot c k).pending = s.pending ∧ (s.openSlot slot c k).free = s.free ∧
    (s.openSlot slot c k).clock = s.clock ∧ (s.openSlot slot c k).supply = s.supply ∧
    (s.openSlot slot c k).mem = s.mem ∧ (s.openSlot slot c k).compartments = s.compartments ∧
    (s.openSlot slot c k).stop = s.stop ∧ (s.openSlot slot c k).cadence = s.cadence ∧
    (s.openSlot slot c k).assembler = s.assembler ∧ (s.openSlot slot c k).receipt = s.receipt ∧
    (s.openSlot slot c k).writer = s.writer ∧ (s.openSlot slot c k).setup = s.setup ∧
    (s.openSlot slot c k).scanner = s.scanner ∧ (s.openSlot slot c k).alert.echo = s.alert.echo ∧
    (s.openSlot slot c k).alert.view = s.alert.view ∧
    (s.openSlot slot c k).alert.line = s.alert.line ∧ (s.openSlot slot c k).status = s.status ∧
    (s.openSlot slot c k).arbiter = s.arbiter ∧ (s.openSlot slot c k).port = s.port ∧
    (s.openSlot slot c k).rejected = s.rejected := by
  simp [State.openSlot]

/-- What `walkSlot` leaves as it was. -/
@[simp] theorem State.walkSlot_frame (s : State) (slot : Nat) :
    (s.walkSlot slot).pending = s.pending ∧ (s.walkSlot slot).free = s.free ∧
    (s.walkSlot slot).clock = s.clock ∧ (s.walkSlot slot).supply = s.supply ∧
    (s.walkSlot slot).mem = s.mem ∧ (s.walkSlot slot).compartments = s.compartments ∧
    (s.walkSlot slot).stop = s.stop ∧ (s.walkSlot slot).cadence = s.cadence ∧
    (s.walkSlot slot).assembler = s.assembler ∧ (s.walkSlot slot).receipt = s.receipt ∧
    (s.walkSlot slot).writer = s.writer ∧ (s.walkSlot slot).setup = s.setup ∧
    (s.walkSlot slot).scanner = s.scanner ∧ (s.walkSlot slot).alert.echo = s.alert.echo ∧
    (s.walkSlot slot).alert.view = s.alert.view ∧ (s.walkSlot slot).alert.line = s.alert.line ∧
    (s.walkSlot slot).status = s.status ∧ (s.walkSlot slot).arbiter = s.arbiter ∧
    (s.walkSlot slot).port = s.port ∧ (s.walkSlot slot).rejected = s.rejected := by
  unfold State.walkSlot; repeat' split
  all_goals simp

/-- What `walk` leaves as it was. -/
@[simp] theorem State.walk_frame (s : State) :
    (s.walk).pending = s.pending ∧ (s.walk).free = s.free ∧ (s.walk).clock = s.clock ∧
    (s.walk).supply = s.supply ∧ (s.walk).mem = s.mem ∧ (s.walk).stop = s.stop ∧
    (s.walk).cadence = s.cadence ∧ (s.walk).assembler = s.assembler ∧
    (s.walk).receipt = s.receipt ∧ (s.walk).writer = s.writer ∧ (s.walk).setup = s.setup ∧
    (s.walk).scanner = s.scanner ∧ (s.walk).alert.echo = s.alert.echo ∧
    (s.walk).alert.view = s.alert.view ∧ (s.walk).alert.line = s.alert.line ∧
    (s.walk).status = s.status ∧ (s.walk).arbiter = s.arbiter ∧ (s.walk).port = s.port ∧
    (s.walk).rejected = s.rejected := by
  simp only [State.walk, State.judgeUnitOff_frame]
  exact ⟨foldl_keep (fun t => t.pending) (fun _ _ => by simp) _ _,
    foldl_keep (fun t => t.free) (fun _ _ => by simp) _ _,
    foldl_keep (fun t => t.clock) (fun _ _ => by simp) _ _,
    foldl_keep (fun t => t.supply) (fun _ _ => by simp) _ _,
    foldl_keep (fun t => t.mem) (fun _ _ => by simp) _ _,
    foldl_keep (fun t => t.stop) (fun _ _ => by simp) _ _,
    foldl_keep (fun t => t.cadence) (fun _ _ => by simp) _ _,
    foldl_keep (fun t => t.assembler) (fun _ _ => by simp) _ _,
    foldl_keep (fun t => t.receipt) (fun _ _ => by simp) _ _,
    foldl_keep (fun t => t.writer) (fun _ _ => by simp) _ _,
    foldl_keep (fun t => t.setup) (fun _ _ => by simp) _ _,
    foldl_keep (fun t => t.scanner) (fun _ _ => by simp) _ _,
    foldl_keep (fun t => t.alert.echo) (fun _ _ => by simp) _ _,
    foldl_keep (fun t => t.alert.view) (fun _ _ => by simp) _ _,
    foldl_keep (fun t => t.alert.line) (fun _ _ => by simp) _ _,
    foldl_keep (fun t => t.status) (fun _ _ => by simp) _ _,
    foldl_keep (fun t => t.arbiter) (fun _ _ => by simp) _ _,
    foldl_keep (fun t => t.port) (fun _ _ => by simp) _ _,
    foldl_keep (fun t => t.rejected) (fun _ _ => by simp) _ _⟩

/-- What `handleReading` leaves as it was. -/
@[simp] theorem State.handleReading_frame (s : State) (r : Report) :
    (s.handleReading r).pending = s.pending ∧ (s.handleReading r).free = s.free ∧
    (s.handleReading r).clock = s.clock ∧ (s.handleReading r).supply = s.supply ∧
    (s.handleReading r).mem = s.mem ∧ (s.handleReading r).stop = s.stop ∧
    (s.handleReading r).assembler = s.assembler ∧ (s.handleReading r).writer = s.writer ∧
    (s.handleReading r).setup = s.setup ∧ (s.handleReading r).scanner = s.scanner ∧
    (s.handleReading r).alert.echo = s.alert.echo ∧ (s.handleReading r).alert.view = s.alert.view ∧
    (s.handleReading r).alert.line = s.alert.line ∧ (s.handleReading r).status = s.status ∧
    (s.handleReading r).arbiter = s.arbiter ∧ (s.handleReading r).port = s.port ∧
    (s.handleReading r).rejected = s.rejected := by
  unfold State.handleReading; repeat' split
  all_goals simp

/-- What `handleLoad` leaves as it was. -/
@[simp] theorem State.handleLoad_frame (s : State) (r : Report) :
    (s.handleLoad r).pending = s.pending ∧ (s.handleLoad r).free = s.free ∧
    (s.handleLoad r).clock = s.clock ∧ (s.handleLoad r).supply = s.supply ∧
    (s.handleLoad r).mem = s.mem ∧ (s.handleLoad r).compartments = s.compartments ∧
    (s.handleLoad r).stop = s.stop ∧ (s.handleLoad r).cadence = s.cadence ∧
    (s.handleLoad r).assembler = s.assembler ∧ (s.handleLoad r).writer = s.writer ∧
    (s.handleLoad r).setup = s.setup ∧ (s.handleLoad r).scanner = s.scanner ∧
    (s.handleLoad r).alert.echo = s.alert.echo ∧ (s.handleLoad r).alert.view = s.alert.view ∧
    (s.handleLoad r).alert.line = s.alert.line ∧ (s.handleLoad r).status = s.status ∧
    (s.handleLoad r).arbiter = s.arbiter ∧ (s.handleLoad r).port = s.port ∧
    (s.handleLoad r).rejected = s.rejected := by
  unfold State.handleLoad; repeat' split
  all_goals simp

/-- What `handleMove` leaves as it was. -/
@[simp] theorem State.handleMove_frame (s : State) (r : Report) :
    (s.handleMove r).pending = s.pending ∧ (s.handleMove r).free = s.free ∧
    (s.handleMove r).clock = s.clock ∧ (s.handleMove r).supply = s.supply ∧
    (s.handleMove r).mem = s.mem ∧ (s.handleMove r).stop = s.stop ∧
    (s.handleMove r).cadence = s.cadence ∧ (s.handleMove r).assembler = s.assembler ∧
    (s.handleMove r).writer = s.writer ∧ (s.handleMove r).setup = s.setup ∧
    (s.handleMove r).scanner = s.scanner ∧ (s.handleMove r).alert.echo = s.alert.echo ∧
    (s.handleMove r).alert.view = s.alert.view ∧ (s.handleMove r).alert.line = s.alert.line ∧
    (s.handleMove r).status = s.status ∧ (s.handleMove r).arbiter = s.arbiter ∧
    (s.handleMove r).port = s.port ∧ (s.handleMove r).rejected = s.rejected := by
  unfold State.handleMove; repeat' split
  all_goals simp

/-- What `handleWithdraw` leaves as it was. -/
@[simp] theorem State.handleWithdraw_frame (s : State) (r : Report) :
    (s.handleWithdraw r).pending = s.pending ∧ (s.handleWithdraw r).free = s.free ∧
    (s.handleWithdraw r).clock = s.clock ∧ (s.handleWithdraw r).supply = s.supply ∧
    (s.handleWithdraw r).mem = s.mem ∧ (s.handleWithdraw r).compartments = s.compartments ∧
    (s.handleWithdraw r).stop = s.stop ∧ (s.handleWithdraw r).cadence = s.cadence ∧
    (s.handleWithdraw r).assembler = s.assembler ∧ (s.handleWithdraw r).writer = s.writer ∧
    (s.handleWithdraw r).setup = s.setup ∧ (s.handleWithdraw r).scanner = s.scanner ∧
    (s.handleWithdraw r).alert.echo = s.alert.echo ∧
    (s.handleWithdraw r).alert.view = s.alert.view ∧
    (s.handleWithdraw r).alert.line = s.alert.line ∧ (s.handleWithdraw r).status = s.status ∧
    (s.handleWithdraw r).arbiter = s.arbiter ∧ (s.handleWithdraw r).port = s.port ∧
    (s.handleWithdraw r).rejected = s.rejected := by
  unfold State.handleWithdraw; repeat' split
  all_goals simp

/-- What `closeTracked` leaves as it was. -/
@[simp] theorem State.closeTracked_frame (s : State) (slot : Nat) (c : Consignment) (t : Tracking) (w : Option Word) :
    (s.closeTracked slot c t w).pending = s.pending ∧ (s.closeTracked slot c t w).free = s.free ∧
    (s.closeTracked slot c t w).clock = s.clock ∧ (s.closeTracked slot c t w).supply = s.supply ∧
    (s.closeTracked slot c t w).mem = s.mem ∧ (s.closeTracked slot c t w).stop = s.stop ∧
    (s.closeTracked slot c t w).cadence = s.cadence ∧
    (s.closeTracked slot c t w).assembler = s.assembler ∧
    (s.closeTracked slot c t w).receipt = s.receipt ∧
    (s.closeTracked slot c t w).writer = s.writer ∧ (s.closeTracked slot c t w).setup = s.setup ∧
    (s.closeTracked slot c t w).scanner = s.scanner ∧
    (s.closeTracked slot c t w).alert.echo = s.alert.echo ∧
    (s.closeTracked slot c t w).alert.view = s.alert.view ∧
    (s.closeTracked slot c t w).alert.line = s.alert.line ∧
    (s.closeTracked slot c t w).status = s.status ∧
    (s.closeTracked slot c t w).arbiter = s.arbiter ∧ (s.closeTracked slot c t w).port = s.port ∧
    (s.closeTracked slot c t w).rejected = s.rejected := by
  unfold State.closeTracked; repeat' split
  all_goals simp

/-- What `closeStaged` leaves as it was. -/
@[simp] theorem State.closeStaged_frame (s : State) (slot : Nat) (c : Consignment) (w : Option Word) :
    (s.closeStaged slot c w).pending = s.pending ∧ (s.closeStaged slot c w).free = s.free ∧
    (s.closeStaged slot c w).clock = s.clock ∧ (s.closeStaged slot c w).supply = s.supply ∧
    (s.closeStaged slot c w).mem = s.mem ∧ (s.closeStaged slot c w).compartments = s.compartments ∧
    (s.closeStaged slot c w).stop = s.stop ∧ (s.closeStaged slot c w).cadence = s.cadence ∧
    (s.closeStaged slot c w).assembler = s.assembler ∧
    (s.closeStaged slot c w).receipt = s.receipt ∧ (s.closeStaged slot c w).writer = s.writer ∧
    (s.closeStaged slot c w).setup = s.setup ∧ (s.closeStaged slot c w).scanner = s.scanner ∧
    (s.closeStaged slot c w).alert.echo = s.alert.echo ∧
    (s.closeStaged slot c w).alert.view = s.alert.view ∧
    (s.closeStaged slot c w).alert.line = s.alert.line ∧
    (s.closeStaged slot c w).status = s.status ∧ (s.closeStaged slot c w).arbiter = s.arbiter ∧
    (s.closeStaged slot c w).port = s.port ∧ (s.closeStaged slot c w).rejected = s.rejected := by
  simp [State.closeStaged]

/-- What `handleHandover` leaves as it was. -/
@[simp] theorem State.handleHandover_frame (s : State) (r : Report) :
    (s.handleHandover r).pending = s.pending ∧ (s.handleHandover r).free = s.free ∧
    (s.handleHandover r).clock = s.clock ∧ (s.handleHandover r).supply = s.supply ∧
    (s.handleHandover r).mem = s.mem ∧ (s.handleHandover r).stop = s.stop ∧
    (s.handleHandover r).cadence = s.cadence ∧ (s.handleHandover r).assembler = s.assembler ∧
    (s.handleHandover r).writer = s.writer ∧ (s.handleHandover r).setup = s.setup ∧
    (s.handleHandover r).scanner = s.scanner ∧ (s.handleHandover r).alert.echo = s.alert.echo ∧
    (s.handleHandover r).alert.view = s.alert.view ∧
    (s.handleHandover r).alert.line = s.alert.line ∧ (s.handleHandover r).status = s.status ∧
    (s.handleHandover r).arbiter = s.arbiter ∧ (s.handleHandover r).port = s.port ∧
    (s.handleHandover r).rejected = s.rejected := by
  unfold State.handleHandover; repeat' split
  all_goals simp

/-- What `handleQuery` leaves as it was. -/
@[simp] theorem State.handleQuery_frame (s : State) (r : Report) :
    (s.handleQuery r).pending = s.pending ∧ (s.handleQuery r).free = s.free ∧
    (s.handleQuery r).clock = s.clock ∧ (s.handleQuery r).supply = s.supply ∧
    (s.handleQuery r).mem = s.mem ∧ (s.handleQuery r).accounts = s.accounts ∧
    (s.handleQuery r).compartments = s.compartments ∧ (s.handleQuery r).stop = s.stop ∧
    (s.handleQuery r).cadence = s.cadence ∧ (s.handleQuery r).assembler = s.assembler ∧
    (s.handleQuery r).queue = s.queue ∧ (s.handleQuery r).writer = s.writer ∧
    (s.handleQuery r).setup = s.setup ∧ (s.handleQuery r).scanner = s.scanner ∧
    (s.handleQuery r).alert.echo = s.alert.echo ∧ (s.handleQuery r).alert.line = s.alert.line ∧
    (s.handleQuery r).status.gen = s.status.gen ∧
    (s.handleQuery r).status.rewrite = s.status.rewrite ∧ (s.handleQuery r).arbiter = s.arbiter ∧
    (s.handleQuery r).port = s.port ∧ (s.handleQuery r).rejected = s.rejected := by
  unfold State.handleQuery; repeat' split
  all_goals simp

/-- What `openAtDeadline` leaves as it was. -/
@[simp] theorem State.openAtDeadline_frame (s : State) (slot : Nat) (c : Consignment) (d : Nat) :
    (s.openAtDeadline slot c d).pending = s.pending ∧ (s.openAtDeadline slot c d).free = s.free ∧
    (s.openAtDeadline slot c d).clock = s.clock ∧ (s.openAtDeadline slot c d).supply = s.supply ∧
    (s.openAtDeadline slot c d).mem = s.mem ∧ (s.openAtDeadline slot c d).stop = s.stop ∧
    (s.openAtDeadline slot c d).cadence = s.cadence ∧
    (s.openAtDeadline slot c d).assembler = s.assembler ∧
    (s.openAtDeadline slot c d).receipt = s.receipt ∧
    (s.openAtDeadline slot c d).writer = s.writer ∧ (s.openAtDeadline slot c d).setup = s.setup ∧
    (s.openAtDeadline slot c d).scanner = s.scanner ∧
    (s.openAtDeadline slot c d).alert.echo = s.alert.echo ∧
    (s.openAtDeadline slot c d).alert.view = s.alert.view ∧
    (s.openAtDeadline slot c d).alert.line = s.alert.line ∧
    (s.openAtDeadline slot c d).status = s.status ∧
    (s.openAtDeadline slot c d).arbiter = s.arbiter ∧ (s.openAtDeadline slot c d).port = s.port ∧
    (s.openAtDeadline slot c d).rejected = s.rejected := by
  simp [State.openAtDeadline]

/-- What `gapAtDeadline` leaves as it was. -/
@[simp] theorem State.gapAtDeadline_frame (s : State) (slot : Nat) (c : Consignment) (t : Tracking) (d : Nat) :
    (s.gapAtDeadline slot c t d).pending = s.pending ∧ (s.gapAtDeadline slot c t d).free = s.free ∧
    (s.gapAtDeadline slot c t d).clock = s.clock ∧ (s.gapAtDeadline slot c t d).supply = s.supply ∧
    (s.gapAtDeadline slot c t d).mem = s.mem ∧
    (s.gapAtDeadline slot c t d).compartments = s.compartments ∧
    (s.gapAtDeadline slot c t d).stop = s.stop ∧ (s.gapAtDeadline slot c t d).cadence = s.cadence ∧
    (s.gapAtDeadline slot c t d).assembler = s.assembler ∧
    (s.gapAtDeadline slot c t d).receipt = s.receipt ∧
    (s.gapAtDeadline slot c t d).writer = s.writer ∧ (s.gapAtDeadline slot c t d).setup = s.setup ∧
    (s.gapAtDeadline slot c t d).scanner = s.scanner ∧
    (s.gapAtDeadline slot c t d).alert.echo = s.alert.echo ∧
    (s.gapAtDeadline slot c t d).alert.view = s.alert.view ∧
    (s.gapAtDeadline slot c t d).alert.line = s.alert.line ∧
    (s.gapAtDeadline slot c t d).status = s.status ∧
    (s.gapAtDeadline slot c t d).arbiter = s.arbiter ∧ (s.gapAtDeadline slot c t d).port = s.port ∧
    (s.gapAtDeadline slot c t d).rejected = s.rejected := by
  unfold State.gapAtDeadline; repeat' split
  all_goals simp

/-- What `expireStaging` leaves as it was. -/
@[simp] theorem State.expireStaging_frame (s : State) (slot : Nat) :
    (s.expireStaging slot).pending = s.pending ∧ (s.expireStaging slot).free = s.free ∧
    (s.expireStaging slot).clock = s.clock ∧ (s.expireStaging slot).supply = s.supply ∧
    (s.expireStaging slot).mem = s.mem ∧ (s.expireStaging slot).stop = s.stop ∧
    (s.expireStaging slot).cadence = s.cadence ∧ (s.expireStaging slot).assembler = s.assembler ∧
    (s.expireStaging slot).receipt = s.receipt ∧ (s.expireStaging slot).writer = s.writer ∧
    (s.expireStaging slot).setup = s.setup ∧ (s.expireStaging slot).scanner = s.scanner ∧
    (s.expireStaging slot).alert.echo = s.alert.echo ∧
    (s.expireStaging slot).alert.view = s.alert.view ∧
    (s.expireStaging slot).alert.line = s.alert.line ∧ (s.expireStaging slot).status = s.status ∧
    (s.expireStaging slot).arbiter = s.arbiter ∧ (s.expireStaging slot).port = s.port ∧
    (s.expireStaging slot).rejected = s.rejected := by
  unfold State.expireStaging; repeat' split
  all_goals simp

/-- What `expireGap` leaves as it was. -/
@[simp] theorem State.expireGap_frame (s : State) (slot : Nat) :
    (s.expireGap slot).pending = s.pending ∧ (s.expireGap slot).free = s.free ∧
    (s.expireGap slot).clock = s.clock ∧ (s.expireGap slot).supply = s.supply ∧
    (s.expireGap slot).mem = s.mem ∧ (s.expireGap slot).compartments = s.compartments ∧
    (s.expireGap slot).stop = s.stop ∧ (s.expireGap slot).cadence = s.cadence ∧
    (s.expireGap slot).assembler = s.assembler ∧ (s.expireGap slot).receipt = s.receipt ∧
    (s.expireGap slot).writer = s.writer ∧ (s.expireGap slot).setup = s.setup ∧
    (s.expireGap slot).scanner = s.scanner ∧ (s.expireGap slot).alert.echo = s.alert.echo ∧
    (s.expireGap slot).alert.view = s.alert.view ∧ (s.expireGap slot).alert.line = s.alert.line ∧
    (s.expireGap slot).status = s.status ∧ (s.expireGap slot).arbiter = s.arbiter ∧
    (s.expireGap slot).port = s.port ∧ (s.expireGap slot).rejected = s.rejected := by
  unfold State.expireGap; repeat' split
  all_goals simp

/-- What `takeDeadline` leaves as it was. -/
@[simp] theorem State.takeDeadline_frame (s : State) (slot : Nat) :
    (s.takeDeadline slot).pending = s.pending ∧ (s.takeDeadline slot).free = s.free ∧
    (s.takeDeadline slot).clock = s.clock ∧ (s.takeDeadline slot).supply = s.supply ∧
    (s.takeDeadline slot).mem = s.mem ∧ (s.takeDeadline slot).stop = s.stop ∧
    (s.takeDeadline slot).cadence = s.cadence ∧ (s.takeDeadline slot).assembler = s.assembler ∧
    (s.takeDeadline slot).receipt = s.receipt ∧ (s.takeDeadline slot).writer = s.writer ∧
    (s.takeDeadline slot).setup = s.setup ∧ (s.takeDeadline slot).scanner = s.scanner ∧
    (s.takeDeadline slot).alert.echo = s.alert.echo ∧
    (s.takeDeadline slot).alert.view = s.alert.view ∧
    (s.takeDeadline slot).alert.line = s.alert.line ∧ (s.takeDeadline slot).status = s.status ∧
    (s.takeDeadline slot).arbiter = s.arbiter ∧ (s.takeDeadline slot).port = s.port ∧
    (s.takeDeadline slot).rejected = s.rejected := by
  unfold State.takeDeadline; repeat' split
  all_goals simp

/-- Choosing among deadlines of one second draws at most one free value. -/
theorem State.chooseSlot_frame {s t : State} {slots : List Nat} {slot : Nat}
    (h : s.chooseSlot slots = some (slot, t)) :
    ∃ n, t = { s with free := n } := by
  unfold State.chooseSlot at h
  split at h
  · exact absurd h (by simp)
  · simp only [Option.some.injEq, Prod.mk.injEq] at h
    exact ⟨s.free, h.2.symm⟩
  · simp only [Option.some.injEq, Prod.mk.injEq] at h
    exact ⟨_, h.2.symm⟩

/-- What the taking of fallen deadlines leaves as it was. -/
@[simp] theorem takeFallen_frame (fuel : Nat) (s : State) :
    (takeFallen fuel s).pending = s.pending ∧ (takeFallen fuel s).clock = s.clock ∧
    (takeFallen fuel s).supply = s.supply ∧ (takeFallen fuel s).mem = s.mem ∧
    (takeFallen fuel s).stop = s.stop ∧ (takeFallen fuel s).cadence = s.cadence ∧
    (takeFallen fuel s).assembler = s.assembler ∧ (takeFallen fuel s).receipt = s.receipt ∧
    (takeFallen fuel s).writer = s.writer ∧ (takeFallen fuel s).setup = s.setup ∧
    (takeFallen fuel s).scanner = s.scanner ∧ (takeFallen fuel s).alert.echo = s.alert.echo ∧
    (takeFallen fuel s).alert.view = s.alert.view ∧ (takeFallen fuel s).alert.line = s.alert.line ∧
    (takeFallen fuel s).status = s.status ∧ (takeFallen fuel s).arbiter = s.arbiter ∧
    (takeFallen fuel s).port = s.port ∧ (takeFallen fuel s).rejected = s.rejected := by
  induction fuel generalizing s with
  | zero => repeat' constructor
  | succ n ih =>
    unfold takeFallen
    split
    · repeat' constructor
    · split
      · repeat' constructor
      · next h =>
        obtain ⟨k, rfl⟩ := State.chooseSlot_frame h
        simp [ih]

/-- What `takeAllFallen` leaves as it was. -/
@[simp] theorem State.takeAllFallen_frame (s : State) :
    (s.takeAllFallen).pending = s.pending ∧ (s.takeAllFallen).clock = s.clock ∧
    (s.takeAllFallen).supply = s.supply ∧ (s.takeAllFallen).mem = s.mem ∧
    (s.takeAllFallen).stop = s.stop ∧ (s.takeAllFallen).cadence = s.cadence ∧
    (s.takeAllFallen).assembler = s.assembler ∧ (s.takeAllFallen).receipt = s.receipt ∧
    (s.takeAllFallen).writer = s.writer ∧ (s.takeAllFallen).setup = s.setup ∧
    (s.takeAllFallen).scanner = s.scanner ∧ (s.takeAllFallen).alert.echo = s.alert.echo ∧
    (s.takeAllFallen).alert.view = s.alert.view ∧ (s.takeAllFallen).alert.line = s.alert.line ∧
    (s.takeAllFallen).status = s.status ∧ (s.takeAllFallen).arbiter = s.arbiter ∧
    (s.takeAllFallen).port = s.port ∧ (s.takeAllFallen).rejected = s.rejected := by
  simp [State.takeAllFallen]

/-- What `handleArrive` leaves as it was. -/
@[simp] theorem State.handleArrive_frame (s : State) (r : Report) :
    (s.handleArrive r).pending = s.pending ∧ (s.handleArrive r).free = s.free ∧
    (s.handleArrive r).clock = s.clock ∧ (s.handleArrive r).supply = s.supply ∧
    (s.handleArrive r).mem = s.mem ∧ (s.handleArrive r).compartments = s.compartments ∧
    (s.handleArrive r).cadence = s.cadence ∧ (s.handleArrive r).assembler = s.assembler ∧
    (s.handleArrive r).writer = s.writer ∧ (s.handleArrive r).setup = s.setup ∧
    (s.handleArrive r).scanner = s.scanner ∧ (s.handleArrive r).alert.echo = s.alert.echo ∧
    (s.handleArrive r).alert.view = s.alert.view ∧ (s.handleArrive r).alert.line = s.alert.line ∧
    (s.handleArrive r).status = s.status ∧ (s.handleArrive r).arbiter = s.arbiter ∧
    (s.handleArrive r).port = s.port ∧ (s.handleArrive r).rejected = s.rejected := by
  unfold State.handleArrive; repeat' split
  all_goals simp

/-- What `handleDepart` leaves as it was. -/
@[simp] theorem State.handleDepart_frame (s : State) (r : Report) :
    (s.handleDepart r).pending = s.pending ∧ (s.handleDepart r).free = s.free ∧
    (s.handleDepart r).clock = s.clock ∧ (s.handleDepart r).supply = s.supply ∧
    (s.handleDepart r).mem = s.mem ∧ (s.handleDepart r).compartments = s.compartments ∧
    (s.handleDepart r).cadence = s.cadence ∧ (s.handleDepart r).assembler = s.assembler ∧
    (s.handleDepart r).writer = s.writer ∧ (s.handleDepart r).setup = s.setup ∧
    (s.handleDepart r).scanner = s.scanner ∧ (s.handleDepart r).alert.echo = s.alert.echo ∧
    (s.handleDepart r).alert.view = s.alert.view ∧ (s.handleDepart r).alert.line = s.alert.line ∧
    (s.handleDepart r).status = s.status ∧ (s.handleDepart r).arbiter = s.arbiter ∧
    (s.handleDepart r).port = s.port ∧ (s.handleDepart r).rejected = s.rejected := by
  unfold State.handleDepart; repeat' split
  all_goals simp

/-- What `handleStop` leaves as it was. -/
@[simp] theorem State.handleStop_frame (s : State) (r : Report) :
    (s.handleStop r).pending = s.pending ∧ (s.handleStop r).free = s.free ∧
    (s.handleStop r).clock = s.clock ∧ (s.handleStop r).supply = s.supply ∧
    (s.handleStop r).mem = s.mem ∧ (s.handleStop r).compartments = s.compartments ∧
    (s.handleStop r).cadence = s.cadence ∧ (s.handleStop r).assembler = s.assembler ∧
    (s.handleStop r).writer = s.writer ∧ (s.handleStop r).setup = s.setup ∧
    (s.handleStop r).scanner = s.scanner ∧ (s.handleStop r).alert.echo = s.alert.echo ∧
    (s.handleStop r).alert.view = s.alert.view ∧ (s.handleStop r).alert.line = s.alert.line ∧
    (s.handleStop r).status = s.status ∧ (s.handleStop r).arbiter = s.arbiter ∧
    (s.handleStop r).port = s.port ∧ (s.handleStop r).rejected = s.rejected := by
  unfold State.handleStop; repeat' split
  all_goals simp

/-- What `handleTime` leaves as it was. -/
@[simp] theorem State.handleTime_frame (s : State) (r : Report) :
    (s.handleTime r).pending = s.pending ∧ (s.handleTime r).free = s.free ∧
    (s.handleTime r).clock = s.clock ∧ (s.handleTime r).supply = s.supply ∧
    (s.handleTime r).mem = s.mem ∧ (s.handleTime r).compartments = s.compartments ∧
    (s.handleTime r).stop = s.stop ∧ (s.handleTime r).cadence = s.cadence ∧
    (s.handleTime r).assembler = s.assembler ∧ (s.handleTime r).writer = s.writer ∧
    (s.handleTime r).setup = s.setup ∧ (s.handleTime r).scanner = s.scanner ∧
    (s.handleTime r).alert.echo = s.alert.echo ∧ (s.handleTime r).alert.view = s.alert.view ∧
    (s.handleTime r).alert.line = s.alert.line ∧ (s.handleTime r).status = s.status ∧
    (s.handleTime r).arbiter = s.arbiter ∧ (s.handleTime r).port = s.port ∧
    (s.handleTime r).rejected = s.rejected := by
  unfold State.handleTime; repeat' split
  all_goals simp

/-- What `takeExport` leaves as it was. -/
@[simp] theorem State.takeExport_frame (s : State) (r : Report) (l : LogState) :
    (s.takeExport r l).pending = s.pending ∧ (s.takeExport r l).free = s.free ∧
    (s.takeExport r l).clock = s.clock ∧ (s.takeExport r l).supply = s.supply ∧
    (s.takeExport r l).mem = s.mem ∧ (s.takeExport r l).accounts = s.accounts ∧
    (s.takeExport r l).compartments = s.compartments ∧ (s.takeExport r l).stop = s.stop ∧
    (s.takeExport r l).cadence = s.cadence ∧ (s.takeExport r l).assembler = s.assembler ∧
    (s.takeExport r l).queue = s.queue ∧ (s.takeExport r l).writer.state = s.writer.state ∧
    (s.takeExport r l).writer.chain = s.writer.chain ∧ (s.takeExport r l).setup = s.setup ∧
    (s.takeExport r l).scanner = s.scanner ∧ (s.takeExport r l).alert.counters = s.alert.counters ∧
    (s.takeExport r l).alert.echo = s.alert.echo ∧ (s.takeExport r l).alert.view = s.alert.view ∧
    (s.takeExport r l).alert.line = s.alert.line ∧ (s.takeExport r l).status = s.status ∧
    (s.takeExport r l).arbiter = s.arbiter ∧ (s.takeExport r l).port = s.port ∧
    (s.takeExport r l).rejected = s.rejected := by
  simp [State.takeExport]

/-- What `handleExported` leaves as it was. -/
@[simp] theorem State.handleExported_frame (s : State) (r : Report) :
    (s.handleExported r).pending = s.pending ∧ (s.handleExported r).free = s.free ∧
    (s.handleExported r).clock = s.clock ∧ (s.handleExported r).supply = s.supply ∧
    (s.handleExported r).mem = s.mem ∧ (s.handleExported r).accounts = s.accounts ∧
    (s.handleExported r).compartments = s.compartments ∧ (s.handleExported r).stop = s.stop ∧
    (s.handleExported r).cadence = s.cadence ∧
    (s.handleExported r).assembler.collecting = s.assembler.collecting ∧
    (s.handleExported r).assembler.waiting = s.assembler.waiting ∧
    (s.handleExported r).queue = s.queue ∧ (s.handleExported r).writer.state = s.writer.state ∧
    (s.handleExported r).writer.chain = s.writer.chain ∧ (s.handleExported r).setup = s.setup ∧
    (s.handleExported r).scanner = s.scanner ∧ (s.handleExported r).alert.echo = s.alert.echo ∧
    (s.handleExported r).alert.view = s.alert.view ∧
    (s.handleExported r).alert.line = s.alert.line ∧ (s.handleExported r).status = s.status ∧
    (s.handleExported r).arbiter.owner = s.arbiter.owner ∧
    (s.handleExported r).arbiter.lockout = s.arbiter.lockout ∧
    (s.handleExported r).arbiter.fairness = s.arbiter.fairness ∧
    (s.handleExported r).arbiter.upstream = s.arbiter.upstream ∧
    (s.handleExported r).arbiter.writer = s.arbiter.writer ∧
    (s.handleExported r).arbiter.status = s.arbiter.status ∧ (s.handleExported r).port = s.port ∧
    (s.handleExported r).rejected = s.rejected := by
  unfold State.handleExported; repeat' split
  all_goals simp

/-- What `judgeExport` leaves as it was. -/
@[simp] theorem State.judgeExport_frame (s : State) (r : Report) (w : Option Word) :
    (s.judgeExport r w).pending = s.pending ∧ (s.judgeExport r w).free = s.free ∧
    (s.judgeExport r w).clock = s.clock ∧ (s.judgeExport r w).supply = s.supply ∧
    (s.judgeExport r w).mem = s.mem ∧ (s.judgeExport r w).accounts = s.accounts ∧
    (s.judgeExport r w).compartments = s.compartments ∧ (s.judgeExport r w).stop = s.stop ∧
    (s.judgeExport r w).cadence = s.cadence ∧ (s.judgeExport r w).assembler = s.assembler ∧
    (s.judgeExport r w).queue = s.queue ∧ (s.judgeExport r w).writer.state = s.writer.state ∧
    (s.judgeExport r w).writer.chain = s.writer.chain ∧ (s.judgeExport r w).setup = s.setup ∧
    (s.judgeExport r w).scanner = s.scanner ∧ (s.judgeExport r w).alert.echo = s.alert.echo ∧
    (s.judgeExport r w).alert.view = s.alert.view ∧ (s.judgeExport r w).alert.line = s.alert.line ∧
    (s.judgeExport r w).status = s.status ∧ (s.judgeExport r w).arbiter = s.arbiter ∧
    (s.judgeExport r w).port = s.port ∧ (s.judgeExport r w).rejected = s.rejected := by
  unfold State.judgeExport; repeat' split
  all_goals simp

/-- What `handle` leaves as it was. -/
@[simp] theorem State.handle_frame (s : State) (r : Report) :
    (s.handle r).pending = s.pending ∧ (s.handle r).free = s.free ∧ (s.handle r).clock = s.clock ∧
    (s.handle r).supply = s.supply ∧ (s.handle r).mem = s.mem ∧
    (s.handle r).assembler.collecting = s.assembler.collecting ∧
    (s.handle r).assembler.waiting = s.assembler.waiting ∧
    (s.handle r).writer.state = s.writer.state ∧ (s.handle r).writer.chain = s.writer.chain ∧
    (s.handle r).setup = s.setup ∧ (s.handle r).scanner = s.scanner ∧
    (s.handle r).alert.echo = s.alert.echo ∧ (s.handle r).alert.line = s.alert.line ∧
    (s.handle r).status.gen = s.status.gen ∧
    (s.handle r).status.rewrite = s.status.rewrite ∧ (s.handle r).arbiter.owner = s.arbiter.owner ∧
    (s.handle r).arbiter.lockout = s.arbiter.lockout ∧
    (s.handle r).arbiter.fairness = s.arbiter.fairness ∧
    (s.handle r).arbiter.upstream = s.arbiter.upstream ∧
    (s.handle r).arbiter.writer = s.arbiter.writer ∧
    (s.handle r).arbiter.status = s.arbiter.status ∧ (s.handle r).port = s.port ∧
    (s.handle r).rejected = s.rejected := by
  unfold State.handle; repeat' split
  all_goals simp

/-- What `handOver` leaves as it was. -/
@[simp] theorem State.handOver_frame (s : State) (r : Report) :
    (s.handOver r).pending = s.pending ∧ (s.handOver r).free = s.free ∧
    (s.handOver r).clock = s.clock ∧ (s.handOver r).supply = s.supply ∧
    (s.handOver r).mem = s.mem ∧ (s.handOver r).assembler.collecting = s.assembler.collecting ∧
    (s.handOver r).assembler.waiting = s.assembler.waiting ∧
    (s.handOver r).writer.state = s.writer.state ∧ (s.handOver r).writer.chain = s.writer.chain ∧
    (s.handOver r).setup = s.setup ∧ (s.handOver r).scanner = s.scanner ∧
    (s.handOver r).alert.echo = s.alert.echo ∧ (s.handOver r).alert.line = s.alert.line ∧
    (s.handOver r).status.gen = s.status.gen ∧
    (s.handOver r).status.rewrite = s.status.rewrite ∧ (s.handOver r).arbiter.owner = s.arbiter.owner ∧
    (s.handOver r).arbiter.lockout = s.arbiter.lockout ∧
    (s.handOver r).arbiter.fairness = s.arbiter.fairness ∧
    (s.handOver r).arbiter.upstream = s.arbiter.upstream ∧
    (s.handOver r).arbiter.writer = s.arbiter.writer ∧
    (s.handOver r).arbiter.status = s.arbiter.status ∧ (s.handOver r).port = s.port ∧
    (s.handOver r).rejected = s.rejected := by
  unfold State.handOver; repeat' split
  all_goals simp

/-- What `complete` leaves as it was. -/
@[simp] theorem State.complete_frame (s : State) (r : Report) :
    (s.complete r).pending = s.pending ∧ (s.complete r).free = s.free ∧
    (s.complete r).clock = s.clock ∧ (s.complete r).supply = s.supply ∧
    (s.complete r).mem = s.mem ∧ (s.complete r).assembler.collecting = s.assembler.collecting ∧
    (s.complete r).writer.state = s.writer.state ∧ (s.complete r).writer.chain = s.writer.chain ∧
    (s.complete r).setup = s.setup ∧ (s.complete r).scanner = s.scanner ∧
    (s.complete r).alert.echo = s.alert.echo ∧ (s.complete r).alert.line = s.alert.line ∧
    (s.complete r).status.gen = s.status.gen ∧
    (s.complete r).status.rewrite = s.status.rewrite ∧ (s.complete r).arbiter.owner = s.arbiter.owner ∧
    (s.complete r).arbiter.lockout = s.arbiter.lockout ∧
    (s.complete r).arbiter.fairness = s.arbiter.fairness ∧
    (s.complete r).arbiter.upstream = s.arbiter.upstream ∧
    (s.complete r).arbiter.writer = s.arbiter.writer ∧
    (s.complete r).arbiter.status = s.arbiter.status ∧ (s.complete r).port = s.port ∧
    (s.complete r).rejected = s.rejected := by
  unfold State.complete; repeat' split
  all_goals simp

/-- What `releaseWaiting` leaves as it was. -/
@[simp] theorem State.releaseWaiting_frame (s : State) :
    (s.releaseWaiting).pending = s.pending ∧ (s.releaseWaiting).free = s.free ∧
    (s.releaseWaiting).clock = s.clock ∧ (s.releaseWaiting).supply = s.supply ∧
    (s.releaseWaiting).mem = s.mem ∧
    (s.releaseWaiting).assembler.collecting = s.assembler.collecting ∧
    (s.releaseWaiting).writer.state = s.writer.state ∧
    (s.releaseWaiting).writer.chain = s.writer.chain ∧ (s.releaseWaiting).setup = s.setup ∧
    (s.releaseWaiting).scanner = s.scanner ∧ (s.releaseWaiting).alert.echo = s.alert.echo ∧
    (s.releaseWaiting).alert.line = s.alert.line ∧ (s.releaseWaiting).status.gen = s.status.gen ∧
    (s.releaseWaiting).status.rewrite = s.status.rewrite ∧
    (s.releaseWaiting).arbiter.owner = s.arbiter.owner ∧
    (s.releaseWaiting).arbiter.lockout = s.arbiter.lockout ∧
    (s.releaseWaiting).arbiter.fairness = s.arbiter.fairness ∧
    (s.releaseWaiting).arbiter.upstream = s.arbiter.upstream ∧
    (s.releaseWaiting).arbiter.writer = s.arbiter.writer ∧
    (s.releaseWaiting).arbiter.status = s.arbiter.status ∧ (s.releaseWaiting).port = s.port ∧
    (s.releaseWaiting).rejected = s.rejected := by
  unfold State.releaseWaiting; repeat' split
  all_goals simp

/-- What `judgeHeader` leaves as it was. -/
@[simp] theorem State.judgeHeader_frame (s : State) (h : Word) :
    (s.judgeHeader h).pending = s.pending ∧ (s.judgeHeader h).free = s.free ∧
    (s.judgeHeader h).clock = s.clock ∧ (s.judgeHeader h).supply = s.supply ∧
    (s.judgeHeader h).mem = s.mem ∧ (s.judgeHeader h).accounts = s.accounts ∧
    (s.judgeHeader h).compartments = s.compartments ∧ (s.judgeHeader h).stop = s.stop ∧
    (s.judgeHeader h).cadence = s.cadence ∧
    (s.judgeHeader h).assembler.waiting = s.assembler.waiting ∧
    (s.judgeHeader h).assembler.handling = s.assembler.handling ∧
    (s.judgeHeader h).queue = s.queue ∧ (s.judgeHeader h).writer = s.writer ∧
    (s.judgeHeader h).setup = s.setup ∧ (s.judgeHeader h).scanner = s.scanner ∧
    (s.judgeHeader h).alert.echo = s.alert.echo ∧ (s.judgeHeader h).alert.view = s.alert.view ∧
    (s.judgeHeader h).alert.line = s.alert.line ∧ (s.judgeHeader h).status = s.status ∧
    (s.judgeHeader h).arbiter = s.arbiter ∧ (s.judgeHeader h).port = s.port ∧
    (s.judgeHeader h).rejected = s.rejected := by
  unfold State.judgeHeader; repeat' split
  all_goals simp

/-- What `feed` leaves as it was. -/
@[simp] theorem State.feed_frame (s : State) (offset : Nat) (w : Word) :
    (s.feed offset w).pending = s.pending ∧ (s.feed offset w).free = s.free ∧
    (s.feed offset w).clock = s.clock ∧ (s.feed offset w).supply = s.supply ∧
    (s.feed offset w).mem = s.mem ∧ (s.feed offset w).writer.state = s.writer.state ∧
    (s.feed offset w).writer.chain = s.writer.chain ∧ (s.feed offset w).setup = s.setup ∧
    (s.feed offset w).scanner = s.scanner ∧ (s.feed offset w).alert.echo = s.alert.echo ∧
    (s.feed offset w).alert.line = s.alert.line ∧ (s.feed offset w).status.gen = s.status.gen ∧
    (s.feed offset w).status.rewrite = s.status.rewrite ∧
    (s.feed offset w).arbiter.owner = s.arbiter.owner ∧
    (s.feed offset w).arbiter.lockout = s.arbiter.lockout ∧
    (s.feed offset w).arbiter.fairness = s.arbiter.fairness ∧
    (s.feed offset w).arbiter.upstream = s.arbiter.upstream ∧
    (s.feed offset w).arbiter.writer = s.arbiter.writer ∧
    (s.feed offset w).arbiter.status = s.arbiter.status ∧ (s.feed offset w).port = s.port ∧
    (s.feed offset w).rejected = s.rejected := by
  unfold State.feed; repeat' split
  all_goals simp

/-- What `expireAssembly` leaves as it was. -/
@[simp] theorem State.expireAssembly_frame (s : State) :
    (s.expireAssembly).pending = s.pending ∧ (s.expireAssembly).free = s.free ∧
    (s.expireAssembly).clock = s.clock ∧ (s.expireAssembly).supply = s.supply ∧
    (s.expireAssembly).mem = s.mem ∧ (s.expireAssembly).accounts = s.accounts ∧
    (s.expireAssembly).compartments = s.compartments ∧ (s.expireAssembly).stop = s.stop ∧
    (s.expireAssembly).cadence = s.cadence ∧
    (s.expireAssembly).assembler.waiting = s.assembler.waiting ∧
    (s.expireAssembly).assembler.handling = s.assembler.handling ∧
    (s.expireAssembly).queue = s.queue ∧ (s.expireAssembly).writer = s.writer ∧
    (s.expireAssembly).setup = s.setup ∧ (s.expireAssembly).scanner = s.scanner ∧
    (s.expireAssembly).alert.echo = s.alert.echo ∧ (s.expireAssembly).alert.view = s.alert.view ∧
    (s.expireAssembly).alert.line = s.alert.line ∧ (s.expireAssembly).status = s.status ∧
    (s.expireAssembly).arbiter = s.arbiter ∧ (s.expireAssembly).port = s.port ∧
    (s.expireAssembly).rejected = s.rejected := by
  unfold State.expireAssembly; repeat' split
  all_goals simp

/-- What `reportArrives` leaves as it was. -/
@[simp] theorem State.reportArrives_frame (s : State) (r : Report) :
    (s.reportArrives r).pending = s.pending ∧ (s.reportArrives r).free = s.free ∧
    (s.reportArrives r).clock = s.clock ∧ (s.reportArrives r).supply.part = s.supply.part ∧
    (s.reportArrives r).supply.mainPresent = s.supply.mainPresent ∧
    (s.reportArrives r).supply.backupPresent = s.supply.backupPresent ∧
    (s.reportArrives r).supply.stableWait = s.supply.stableWait ∧
    (s.reportArrives r).supply.resetPin = s.supply.resetPin ∧
    (s.reportArrives r).supply.resetTime = s.supply.resetTime ∧
    (s.reportArrives r).supply.domainHeld = s.supply.domainHeld ∧
    (s.reportArrives r).supply.retainedValid = s.supply.retainedValid ∧
    (s.reportArrives r).supply.coldOutcome = s.supply.coldOutcome ∧
    (s.reportArrives r).supply.powerLoss = s.supply.powerLoss ∧ (s.reportArrives r).mem = s.mem ∧
    (s.reportArrives r).writer.state = s.writer.state ∧
    (s.reportArrives r).writer.chain = s.writer.chain ∧ (s.reportArrives r).setup = s.setup ∧
    (s.reportArrives r).scanner = s.scanner ∧ (s.reportArrives r).alert.echo = s.alert.echo ∧
    (s.reportArrives r).status.gen = s.status.gen ∧
    (s.reportArrives r).status.rewrite = s.status.rewrite ∧
    (s.reportArrives r).arbiter.owner = s.arbiter.owner ∧
    (s.reportArrives r).arbiter.lockout = s.arbiter.lockout ∧
    (s.reportArrives r).arbiter.fairness = s.arbiter.fairness ∧
    (s.reportArrives r).arbiter.upstream = s.arbiter.upstream ∧
    (s.reportArrives r).arbiter.writer = s.arbiter.writer ∧
    (s.reportArrives r).arbiter.status = s.arbiter.status ∧ (s.reportArrives r).port = s.port ∧
    (s.reportArrives r).rejected = s.rejected := by
  unfold State.reportArrives; repeat' split
  all_goals simp

end Sys2Proof.Machine
end

