-- ==== Sys2Proof/Laws/Memory.lean ====
section
/-! SUPPORT. The memory's canonical form is kept, and what a byte or word reads as after a write. -/

namespace Sys2Proof.Machine

theorem Mem.wfFrom_mono {lo lo' : Nat} {m : Mem} (hle : lo' ≤ lo) (h : Mem.wfFrom lo m = true) :
    Mem.wfFrom lo' m = true := by
  cases m with
  | nil => rfl
  | cons c m =>
    obtain ⟨a, v⟩ := c
    simp only [Mem.wfFrom, Bool.and_eq_true, decide_eq_true_eq] at h ⊢
    exact ⟨⟨by omega, h.1.2⟩, h.2⟩

theorem Mem.wfFrom_writeByte {lo a : Nat} {m : Mem} (x : Byte) (ha : lo ≤ a)
    (h : Mem.wfFrom lo m = true) : Mem.wfFrom lo (m.writeByte a x) = true := by
  induction m generalizing lo with
  | nil =>
    unfold Mem.writeByte
    split
    · rfl
    · next hx => simp [Mem.wfFrom, ha, hx]
  | cons c m ih =>
    obtain ⟨b, v⟩ := c
    simp only [Mem.wfFrom, Bool.and_eq_true, decide_eq_true_eq, bne_iff_ne] at h
    obtain ⟨⟨hb, hv⟩, ht⟩ := h
    unfold Mem.writeByte
    split
    · next hab =>
      split
      · simp [Mem.wfFrom, hb, hv, ht]
      · next hx =>
        simp only [Mem.wfFrom, Bool.and_eq_true, decide_eq_true_eq, bne_iff_ne]
        exact ⟨⟨ha, hx⟩, ⟨by omega, hv⟩, ht⟩
    · split
      · split
        · exact Mem.wfFrom_mono (by omega) ht
        · next hx =>
          simp only [Mem.wfFrom, Bool.and_eq_true, decide_eq_true_eq, bne_iff_ne]
          refine ⟨⟨ha, hx⟩, ?_⟩
          next hab => exact hab ▸ ht
      · simp only [Mem.wfFrom, Bool.and_eq_true, decide_eq_true_eq, bne_iff_ne]
        exact ⟨⟨hb, hv⟩, ih (by omega) ht⟩

/-- A byte write keeps the canonical form. -/
theorem Mem.wf_writeByte {m : Mem} (a : Nat) (x : Byte) (h : m.wf = true) :
    (m.writeByte a x).wf = true := Mem.wfFrom_writeByte x (Nat.zero_le a) h

/-- A word write keeps the canonical form. -/
theorem Mem.wf_writeWord {m : Mem} (a : Nat) (w : Word) (h : m.wf = true) :
    (m.writeWord a w).wf = true :=
  Mem.wf_writeByte _ _ (Mem.wf_writeByte _ _ (Mem.wf_writeByte _ _ (Mem.wf_writeByte _ _ h)))

/-- Below the first listed address every byte is unlisted. -/
theorem Mem.readByte_below {lo a : Nat} {m : Mem} (h : Mem.wfFrom lo m = true) (ha : a < lo) :
    m.readByte a = Mem.unlisted := by
  induction m generalizing lo with
  | nil => rfl
  | cons c m ih =>
    obtain ⟨b, v⟩ := c
    simp only [Mem.wfFrom, Bool.and_eq_true, decide_eq_true_eq] at h
    unfold Mem.readByte
    rw [if_neg (by omega)]
    exact ih h.2 (by omega)

/-- What a byte reads as after a byte write. -/
theorem Mem.readByte_writeByte {lo : Nat} {m : Mem} (a b : Nat) (x : Byte)
    (h : Mem.wfFrom lo m = true) :
    (m.writeByte a x).readByte b = if b = a then x else m.readByte b := by
  induction m generalizing lo with
  | nil =>
    unfold Mem.writeByte
    by_cases hx : x = Mem.unlisted
    · rw [if_pos hx, hx]
      by_cases hb : b = a
      · rw [if_pos hb]; rfl
      · rw [if_neg hb]
    · rw [if_neg hx]
      unfold Mem.readByte
      by_cases hb : b = a
      · rw [if_pos hb, if_pos hb.symm]
      · rw [if_neg hb, if_neg (Ne.symm hb)]; rfl
  | cons c m ih =>
    obtain ⟨k, v⟩ := c
    simp only [Mem.wfFrom, Bool.and_eq_true, decide_eq_true_eq, bne_iff_ne] at h
    obtain ⟨⟨hk, hv⟩, ht⟩ := h
    unfold Mem.writeByte
    by_cases hak : a < k
    · rw [if_pos hak]
      by_cases hx : x = Mem.unlisted
      · rw [if_pos hx]
        by_cases hb : b = a
        · subst hb
          rw [if_pos rfl, hx]
          unfold Mem.readByte
          rw [if_neg (by omega)]
          exact Mem.readByte_below ht (by omega)
        · rw [if_neg hb]
      · rw [if_neg hx]
        by_cases hb : b = a
        · subst hb; simp [Mem.readByte]
        · rw [if_neg hb, Mem.readByte, if_neg (Ne.symm hb)]
    · rw [if_neg hak]
      by_cases hkeq : a = k
      · rw [if_pos hkeq]
        subst hkeq
        by_cases hx : x = Mem.unlisted
        · rw [if_pos hx]
          by_cases hb : b = a
          · subst hb; rw [if_pos rfl, hx]; exact Mem.readByte_below ht (by omega)
          · rw [if_neg hb, Mem.readByte, if_neg (Ne.symm hb)]
        · rw [if_neg hx]
          by_cases hb : b = a
          · subst hb; simp [Mem.readByte]
          · simp [Mem.readByte, hb, Ne.symm hb]
      · rw [if_neg hkeq]
        unfold Mem.readByte
        by_cases hbk : k = b
        · rw [if_pos hbk, if_pos hbk, if_neg (by omega)]
        · rw [if_neg hbk, if_neg hbk]
          exact ih ht

/-- A byte outside the four bytes of a written word reads as before. -/
theorem Mem.readByte_writeWord_other {m : Mem} (hm : m.wf = true) (a b : Nat) (w : Word)
    (hb : b < a ∨ a + 4 ≤ b) : (m.writeWord a w).readByte b = m.readByte b := by
  unfold Mem.writeWord
  have h0 := Mem.wf_writeByte a (byteOf w 0) hm
  have h1 := Mem.wf_writeByte (a + 1) (byteOf w 1) h0
  have h2 := Mem.wf_writeByte (a + 2) (byteOf w 2) h1
  rw [Mem.readByte_writeByte _ _ _ h2, if_neg (by omega), Mem.readByte_writeByte _ _ _ h1,
    if_neg (by omega), Mem.readByte_writeByte _ _ _ h0, if_neg (by omega),
    Mem.readByte_writeByte _ _ _ hm, if_neg (by omega)]

/-- A byte of a written word reads as that byte of the word. -/
theorem Mem.readByte_writeWord_same {m : Mem} (hm : m.wf = true) (a k : Nat) (w : Word) (hk : k < 4) :
    (m.writeWord a w).readByte (a + k) = byteOf w k := by
  unfold Mem.writeWord
  have h0 := Mem.wf_writeByte a (byteOf w 0) hm
  have h1 := Mem.wf_writeByte (a + 1) (byteOf w 1) h0
  have h2 := Mem.wf_writeByte (a + 2) (byteOf w 2) h1
  rw [Mem.readByte_writeByte _ _ _ h2, Mem.readByte_writeByte _ _ _ h1,
    Mem.readByte_writeByte _ _ _ h0, Mem.readByte_writeByte _ _ _ hm]
  have : k = 0 ∨ k = 1 ∨ k = 2 ∨ k = 3 := by omega
  rcases this with rfl | rfl | rfl | rfl <;> simp

/-- The four bytes of a word, most significant first, make the word (R147). -/
theorem byteOf_append (w : Word) :
    byteOf w 0 ++ byteOf w 1 ++ byteOf w 2 ++ byteOf w 3 = w := by
  apply BitVec.eq_of_getLsbD_eq
  intro i hi
  unfold byteOf
  simp only [BitVec.getLsbD_append, BitVec.getLsbD_setWidth, BitVec.getLsbD_ushiftRight]
  interval_cases i <;> rfl

/-- A written word reads back as written. -/
theorem Mem.readWord_writeWord {m : Mem} (hm : m.wf = true) (a : Nat) (w : Word) :
    (m.writeWord a w).readWord a = w := by
  unfold Mem.readWord
  have h := Mem.readByte_writeWord_same hm a 0 w (by omega)
  rw [Nat.add_zero] at h
  rw [h, Mem.readByte_writeWord_same hm a 1 w (by omega),
    Mem.readByte_writeWord_same hm a 2 w (by omega), Mem.readByte_writeWord_same hm a 3 w (by omega)]
  exact byteOf_append w

end Sys2Proof.Machine
end

