-- ==== Sys2Proof/Laws/Bounds.lean ====
section
/-! SUPPORT. Every operation keeps `Safety.Bounds`. One lemma per operation, named after it. -/

namespace Sys2Proof

open Machine

theorem Safety.Bounds.latch {s : State} (h : Safety.Bounds s) (c : Cause) :
    Safety.Bounds (s.latch c) := by
  constructor <;> try simp [h.memory, h.table, h.queue, h.counters, h.seconds, h.sub, h.fairness]

theorem Safety.Bounds.latchIf {s : State} (h : Safety.Bounds s) (b : Bool) (c : Cause) :
    Safety.Bounds (s.latchIf b c) := by
  constructor <;> try simp [h.memory, h.table, h.queue, h.counters, h.seconds, h.sub, h.fairness]

theorem Safety.Bounds.seal {s : State} (h : Safety.Bounds s) :
    Safety.Bounds s.seal := by
  constructor <;> try simp [h.memory, h.table, h.queue, h.counters, h.seconds, h.sub, h.fairness]

theorem Safety.Bounds.refreshNearFull {s : State} (h : Safety.Bounds s) :
    Safety.Bounds s.refreshNearFull := by
  constructor <;> try simp [h.memory, h.table, h.queue, h.counters, h.seconds, h.sub, h.fairness]

theorem Safety.Bounds.judgeNearFull {s : State} (h : Safety.Bounds s) :
    Safety.Bounds s.judgeNearFull := by
  constructor <;> try simp [h.memory, h.table, h.queue, h.counters, h.seconds, h.sub, h.fairness]

theorem Safety.Bounds.judgeLine {s : State} (h : Safety.Bounds s) :
    Safety.Bounds s.judgeLine := by
  constructor <;> try simp [h.memory, h.table, h.queue, h.counters, h.seconds, h.sub, h.fairness]

theorem Safety.Bounds.judgeUnitOff {s : State} (h : Safety.Bounds s) :
    Safety.Bounds s.judgeUnitOff := by
  constructor <;> try simp [h.memory, h.table, h.queue, h.counters, h.seconds, h.sub, h.fairness]

theorem Safety.Bounds.raiseDemand {s : State} (h : Safety.Bounds s) (b : State) :
    Safety.Bounds (s.raiseDemand b) := by
  constructor <;> try simp [h.memory, h.table, h.queue, h.counters, h.seconds, h.sub, h.fairness]

theorem Safety.Bounds.settle {s : State} (h : Safety.Bounds s) (b : State) :
    Safety.Bounds (s.settle b) := by
  constructor <;> try simp [h.memory, h.table, h.queue, h.counters, h.seconds, h.sub, h.fairness]

theorem Safety.Bounds.take {s : State} (h : Safety.Bounds s) (q : Half) :
    Safety.Bounds (s.take q) := by
  constructor <;> try simp [h.memory, h.table, h.queue, h.counters, h.seconds, h.sub, h.fairness]

theorem Safety.Bounds.keepRejected {s : State} (h : Safety.Bounds s) (a : HostAccess) (r : RejectReason) :
    Safety.Bounds (s.keepRejected a r) := by
  constructor <;> try simp [h.memory, h.table, h.queue, h.counters, h.seconds, h.sub, h.fairness]

theorem Safety.Bounds.answer {s : State} (h : Safety.Bounds s) (a : HostAccess) (r : Response) :
    Safety.Bounds (s.answer a r) := by
  constructor <;> try simp [h.memory, h.table, h.queue, h.counters, h.seconds, h.sub, h.fairness]

theorem Safety.Bounds.askUpstream {s : State} (h : Safety.Bounds s) (a : HostAccess) (j : HostJob) :
    Safety.Bounds (s.askUpstream a j) := by
  constructor <;> try simp [h.memory, h.table, h.queue, h.counters, h.seconds, h.sub, h.fairness]

theorem Safety.Bounds.hold {s : State} (h : Safety.Bounds s) (a : HostAccess) :
    Safety.Bounds (s.hold a) := by
  constructor <;> try simp [h.memory, h.table, h.queue, h.counters, h.seconds, h.sub, h.fairness]

theorem Safety.Bounds.freePort {s : State} (h : Safety.Bounds s) :
    Safety.Bounds s.freePort := by
  constructor <;> try simp [h.memory, h.table, h.queue, h.counters, h.seconds, h.sub, h.fairness]

theorem Safety.Bounds.endLockout {s : State} (h : Safety.Bounds s) :
    Safety.Bounds s.endLockout := by
  constructor <;> try simp [h.memory, h.table, h.queue, h.counters, h.seconds, h.sub, h.fairness]

theorem Safety.Bounds.askWriter {s : State} (h : Safety.Bounds s) :
    Safety.Bounds s.askWriter := by
  constructor <;> try simp [h.memory, h.table, h.queue, h.counters, h.seconds, h.sub, h.fairness]

theorem Safety.Bounds.askReader {s : State} (h : Safety.Bounds s) (c : ReaderClient) :
    Safety.Bounds (s.askReader c) := by
  constructor <;> try simp [h.memory, h.table, h.queue, h.counters, h.seconds, h.sub, h.fairness]

theorem Safety.Bounds.askStatus {s : State} (h : Safety.Bounds s) :
    Safety.Bounds s.askStatus := by
  constructor <;> try simp [h.memory, h.table, h.queue, h.counters, h.seconds, h.sub, h.fairness]

theorem Safety.Bounds.fullRewrite {s : State} (h : Safety.Bounds s) :
    Safety.Bounds s.fullRewrite := by
  constructor <;> try simp [h.memory, h.table, h.queue, h.counters, h.seconds, h.sub, h.fairness]

theorem Safety.Bounds.raiseLoad {s : State} (h : Safety.Bounds s) :
    Safety.Bounds s.raiseLoad := by
  constructor <;> try simp [h.memory, h.table, h.queue, h.counters, h.seconds, h.sub, h.fairness]

theorem Safety.Bounds.snapshot {s : State} (h : Safety.Bounds s) :
    Safety.Bounds s.snapshot := by
  constructor <;> try simp [h.memory, h.table, h.queue, h.counters, h.seconds, h.sub, h.fairness]

theorem Safety.Bounds.grantHolder {s : State} (h : Safety.Bounds s) (k : Lockout) :
    Safety.Bounds (s.grantHolder k) := by
  constructor <;> try simp [h.memory, h.table, h.queue, h.counters, h.seconds, h.sub, h.fairness]

theorem Safety.Bounds.memWrite {s : State} (h : Safety.Bounds s) (m : MemAnswer) (a : Nat) (w : Word) :
    Safety.Bounds (s.memWrite m a w) := by
  constructor <;> try simp [h.table, h.queue, h.counters, h.seconds, h.sub, h.fairness]
  cases m <;> exact Mem.wf_writeWord _ _ h.memory

theorem Safety.Bounds.memAbandon {s : State} (h : Safety.Bounds s) (a : Nat) (w : Word) :
    Safety.Bounds (s.memAbandon a w) := by
  constructor <;> try simp [h.table, h.queue, h.counters, h.seconds, h.sub, h.fairness]
  unfold State.memAbandon
  split
  · exact Mem.wf_writeWord _ _ h.memory
  · exact h.memory

theorem Safety.Bounds.setAccount {s : State} (h : Safety.Bounds s) (slot : Nat) (e : Entry) :
    Safety.Bounds (s.setAccount slot e) := by
  constructor <;> try simp [h.memory, h.queue, h.counters, h.seconds, h.sub, h.fairness]
  simp [State.setAccount, h.table]

theorem counterAdd_le (a b : Nat) : counterAdd a b ≤ 65535 := Nat.min_le_right _ _

/-- A change of the counters alone keeps the bounds. -/
theorem Safety.Bounds.withCounters {s : State} (h : Safety.Bounds s) {c : Counters}
    (hc : Safety.countersBounded c) : Safety.Bounds { s with alert := { s.alert with counters := c } } :=
  ⟨h.memory, h.table, h.queue, hc, h.seconds, h.sub, h.fairness⟩

theorem Safety.Bounds.lose {s : State} (h : Safety.Bounds s) (q : QEntry) :
    Safety.Bounds (s.lose q) := by
  obtain ⟨h1, h2, h3, h4, _⟩ := h.counters
  unfold State.lose
  refine Safety.Bounds.latchIf (Safety.Bounds.latch ?_ _) _ _
  exact ⟨h.memory, by simp [h.table], h.queue, ⟨h1, h2, h3, h4, counterAdd_le _ _⟩, h.seconds, h.sub,
    h.fairness⟩

theorem Safety.Bounds.produce {s : State} (h : Safety.Bounds s) (q : QEntry) :
    Safety.Bounds (s.produce q) := by
  unfold State.produce
  split
  · next hq =>
    exact ⟨h.memory, h.table, by simp; omega, h.counters, h.seconds, h.sub, h.fairness⟩
  · exact h.lose q

theorem Safety.Bounds.refuse {s : State} (h : Safety.Bounds s) (q : Half) (r : ReportRefusal) :
    Safety.Bounds (s.refuse q r) := by
  obtain ⟨_, h2, h3, h4, h5⟩ := h.counters
  unfold State.refuse
  refine Safety.Bounds.latch ?_ _
  exact ⟨h.memory, h.table, h.queue, ⟨counterAdd_le _ _, h2, h3, h4, h5⟩, h.seconds, h.sub,
    h.fairness⟩

theorem Safety.Bounds.refuseAssembly {s : State} (h : Safety.Bounds s) (r : ReportRefusal) :
    Safety.Bounds (s.refuseAssembly r) := by
  unfold State.refuseAssembly
  split
  · exact h
  · refine Safety.Bounds.refuse ?_ _ _
    exact ⟨h.memory, h.table, h.queue, h.counters, h.seconds, h.sub, h.fairness⟩

theorem Safety.Bounds.accessError {s : State} (h : Safety.Bounds s) (a : HostAccess) (r : RejectReason) :
    Safety.Bounds (s.accessError a r) := by
  obtain ⟨h1, h2, _, h4, h5⟩ := h.counters
  unfold State.accessError
  refine Safety.Bounds.keepRejected ?_ _ _
  exact ⟨h.memory, h.table, h.queue, ⟨h1, h2, counterAdd_le _ _, h4, h5⟩, h.seconds, h.sub, h.fairness⟩

theorem Safety.Bounds.protectViolation {s : State} (h : Safety.Bounds s) (a : HostAccess) (r : RejectReason) :
    Safety.Bounds (s.protectViolation a r) := by
  obtain ⟨h1, _, h3, h4, h5⟩ := h.counters
  unfold State.protectViolation
  refine Safety.Bounds.keepRejected (Safety.Bounds.latch ?_ _) _ _
  exact ⟨h.memory, h.table, h.queue, ⟨h1, counterAdd_le _ _, h3, h4, h5⟩, h.seconds, h.sub, h.fairness⟩

theorem Safety.Bounds.addMissed {s : State} (h : Safety.Bounds s) (n : Nat) :
    Safety.Bounds (s.addMissed n) := by
  obtain ⟨h1, h2, h3, _, h5⟩ := h.counters
  exact ⟨h.memory, h.table, h.queue, ⟨h1, h2, h3, counterAdd_le _ _, h5⟩, h.seconds, h.sub,
    h.fairness⟩

theorem Safety.Bounds.acknowledge {s : State} (h : Safety.Bounds s) (data : Word) :
    Safety.Bounds (s.acknowledge data) := by
  constructor <;> try simp [h.memory, h.table, h.queue, h.seconds, h.sub, h.fairness]
  unfold State.acknowledge
  simp only
  split
  · simp [Safety.countersBounded, Counters.zero]
  · exact h.counters

theorem Safety.Bounds.grantInternal {s : State} (h : Safety.Bounds s) :
    Safety.Bounds s.grantInternal := by
  unfold State.grantInternal
  split
  · exact ⟨h.memory, h.table, h.queue, h.counters, h.seconds, h.sub, by simp⟩
  · split
    · exact ⟨h.memory, h.table, h.queue, h.counters, h.seconds, h.sub, by simp⟩
    · split
      · refine Safety.Bounds.snapshot ?_
        exact ⟨h.memory, h.table, h.queue, h.counters, h.seconds, h.sub, by simp⟩
      · exact h

theorem Safety.Bounds.grantUpstream {s : State} (h : Safety.Bounds s) (hf : s.arbiter.fairness < 8) :
    Safety.Bounds s.grantUpstream := by
  refine ⟨h.memory, h.table, h.queue, h.counters, h.seconds, h.sub, ?_⟩
  simp only [State.grantUpstream]
  split <;> omega

theorem Safety.Bounds.arbitrate {s : State} (h : Safety.Bounds s) :
    Safety.Bounds s.arbitrate := by
  unfold State.arbitrate
  split
  · exact h
  · split
    · exact h.grantHolder _
    · split
      · next hu => exact h.grantUpstream (by simp at hu; exact hu.2)
      · exact h.grantInternal

theorem Safety.Bounds.narrowWindow {s : State} (h : Safety.Bounds s) (a : HostAccess) :
    Safety.Bounds (s.narrowWindow a) := by
  exact ((h.accessError _ _).refuseAssembly _).answer _ _

theorem Safety.Bounds.refuseAccess {s : State} (h : Safety.Bounds s) (a : HostAccess) (r : RejectReason) :
    Safety.Bounds (s.refuseAccess a r) := by
  exact (h.accessError _ _).answer _ _

theorem Safety.Bounds.judgeFullWrite {s : State} (h : Safety.Bounds s) (a : HostAccess) (r : Region) :
    Safety.Bounds (s.judgeFullWrite a r) := by
  unfold State.judgeFullWrite
  repeat' split
  all_goals first
    | exact h.askUpstream _ _
    | exact (h.acknowledge _).answer _ _

theorem Safety.Bounds.judgeNarrowWrite {s : State} (h : Safety.Bounds s) (a : HostAccess) (r : Region) :
    Safety.Bounds (s.judgeNarrowWrite a r) := by
  unfold State.judgeNarrowWrite
  repeat' split
  all_goals first
    | exact h.askUpstream _ _
    | exact h.narrowWindow _

theorem Safety.Bounds.judge {s : State} (h : Safety.Bounds s) (a : HostAccess) :
    Safety.Bounds (s.judge a) := by
  unfold State.judge
  repeat' split
  all_goals first
    | exact h.hold _
    | exact h.refuseAccess _ _
    | exact h.askUpstream _ _
    | exact h.judgeFullWrite _ _
    | exact h.judgeNarrowWrite _ _

theorem Safety.Bounds.judgeHeld {s : State} (h : Safety.Bounds s) :
    Safety.Bounds s.judgeHeld := by
  unfold State.judgeHeld
  split
  · refine Safety.Bounds.judge ?_ _
    exact ⟨h.memory, h.table, h.queue, h.counters, h.seconds, h.sub, h.fairness⟩
  · exact h

theorem Safety.Bounds.takeBehind (as : List HostAccess) {s : State} (h : Safety.Bounds s) :
    Safety.Bounds (takeBehind as s) := by
  induction as generalizing s with
  | nil => exact ⟨h.memory, h.table, h.queue, h.counters, h.seconds, h.sub, h.fairness⟩
  | cons a rest ih =>
    unfold Machine.takeBehind
    split
    · exact ⟨h.memory, h.table, h.queue, h.counters, h.seconds, h.sub, h.fairness⟩
    · exact ih (h.judge a)

theorem Safety.Bounds.pump {s : State} (h : Safety.Bounds s) :
    Safety.Bounds s.pump := by
  exact Safety.Bounds.takeBehind _ h.judgeHeld

theorem Safety.Bounds.settlePorts {s : State} (h : Safety.Bounds s) (b : State) :
    Safety.Bounds (s.settlePorts b) := by
  exact (((h.pump).raiseDemand b).arbitrate).judgeLine.seal

/-- A change of parts that the bounds do not speak of. -/
theorem Safety.Bounds.transport {s t : State} (h : Safety.Bounds s) (hm : t.mem = s.mem)
    (ha : t.accounts = s.accounts) (hq : t.queue = s.queue) (hc : t.alert.counters = s.alert.counters)
    (hk : t.clock = s.clock) (hf : t.arbiter.fairness = s.arbiter.fairness) : Safety.Bounds t :=
  ⟨hm ▸ h.memory, ha ▸ h.table, hq ▸ h.queue, hc ▸ h.counters, hk ▸ h.seconds, hk ▸ h.sub,
    hf ▸ h.fairness⟩

/-- What every step of a fold keeps within the bounds, the fold does. -/
theorem Safety.Bounds.fold {α : Type} {f : State → α → State}
    (hf : ∀ s a, Safety.Bounds s → Safety.Bounds (f s a)) (l : List α) {s : State}
    (h : Safety.Bounds s) : Safety.Bounds (l.foldl f s) := by
  induction l generalizing s with
  | nil => exact h
  | cons a l ih => exact ih (hf s a h)

theorem Safety.Bounds.hostAccess {s : State} (h : Safety.Bounds s) (a : HostAccess) :
    Safety.Bounds (s.hostAccess a) := by
  unfold State.hostAccess
  split
  · exact h
  · refine Safety.Bounds.settlePorts ?_ _
    exact h.transport rfl rfl rfl rfl rfl rfl

theorem Safety.Bounds.acceptReading {s : State} (h : Safety.Bounds s) (q : Half) :
    Safety.Bounds (s.acceptReading q) := by
  exact (h.addMissed _).transport rfl rfl rfl rfl rfl rfl

theorem Safety.Bounds.expireCadence {s : State} (h : Safety.Bounds s) :
    Safety.Bounds s.expireCadence := by
  unfold State.expireCadence
  repeat' split
  · exact h
  · refine Safety.Bounds.latchIf ?_ _ _
    exact (h.addMissed 1).transport rfl rfl rfl rfl rfl rfl
  · exact h

theorem Safety.Bounds.updateCompartment {s : State} (h : Safety.Bounds s) (r : Report) (k : Nat) :
    Safety.Bounds (s.updateCompartment r k) := by
  unfold State.updateCompartment
  split
  · exact h
  · dsimp only
    split
    · exact h.transport rfl rfl rfl rfl rfl rfl
    · refine (Safety.Bounds.latchIf ?_ _ _).produce _
      exact h.transport rfl rfl rfl rfl rfl rfl

theorem Safety.Bounds.updateCompartments {s : State} (h : Safety.Bounds s) (r : Report) :
    Safety.Bounds (s.updateCompartments r) := by
  exact (Safety.Bounds.fold (fun _ k hs => Safety.Bounds.updateCompartment hs r k) _ h).judgeUnitOff

theorem Safety.Bounds.searchGap {s : State} (h : Safety.Bounds s) (p : Option Nat) (k : Nat) :
    Safety.Bounds (s.searchGap p k) := by
  unfold State.searchGap
  repeat' split
  all_goals first
    | exact h
    | exact h.produce _

theorem Safety.Bounds.searchGaps {s : State} (h : Safety.Bounds s) (p : List (Option Nat)) :
    Safety.Bounds (s.searchGaps p) := by
  exact Safety.Bounds.fold (fun _ k hs => hs.searchGap _ k) _ h

theorem Safety.Bounds.mapMachine {s : State} (h : Safety.Bounds s) (k : Nat) (n : MachineName) (f : Allowance → Allowance) :
    Safety.Bounds (s.mapMachine k n f) := by
  unfold State.mapMachine
  split
  · exact h
  · exact h.transport rfl rfl rfl rfl rfl rfl

theorem Safety.Bounds.queueEnded {s : State} (h : Safety.Bounds s) (slot : Nat) (ref : BitVec 64) (x : Option Excursion) :
    Safety.Bounds (s.queueEnded slot ref x) := by
  unfold State.queueEnded
  split
  · exact h
  · exact h.produce _

theorem Safety.Bounds.evaluateSlot {s : State} (h : Safety.Bounds s) (slot : Nat) :
    Safety.Bounds (s.evaluateSlot slot) := by
  unfold State.evaluateSlot
  repeat' split
  all_goals try exact h
  dsimp only
  split
  · exact ((((h.setAccount _ _).latchIf _ _).queueEnded _ _ _).produce _)
  · exact (((h.setAccount _ _).latchIf _ _).queueEnded _ _ _)

theorem Safety.Bounds.openSlot {s : State} (h : Safety.Bounds s) (slot : Nat) (c : Consignment) (k : Compartment) :
    Safety.Bounds (s.openSlot slot c k) := by
  exact (h.setAccount _ _).produce _

theorem Safety.Bounds.walkSlot {s : State} (h : Safety.Bounds s) (slot : Nat) :
    Safety.Bounds (s.walkSlot slot) := by
  unfold State.walkSlot
  repeat' split
  all_goals first
    | exact h
    | exact h.evaluateSlot _
    | exact (h.openSlot _ _ _).evaluateSlot _

theorem Safety.Bounds.walk {s : State} (h : Safety.Bounds s) :
    Safety.Bounds s.walk := by
  exact (Safety.Bounds.fold (fun _ k hs => hs.walkSlot k) _ h).judgeUnitOff

theorem Safety.Bounds.handleReading {s : State} (h : Safety.Bounds s) (r : Report) :
    Safety.Bounds (s.handleReading r) := by
  unfold State.handleReading
  split
  · exact (((h.acceptReading _).updateCompartments r).searchGaps _).walk.take _
  · exact h.refuse _ _

theorem Safety.Bounds.handleLoad {s : State} (h : Safety.Bounds s) (r : Report) :
    Safety.Bounds (s.handleLoad r) := by
  unfold State.handleLoad
  split
  · exact h.refuse _ _
  · exact ((h.setAccount _ _).produce _).take _

theorem Safety.Bounds.handleMove {s : State} (h : Safety.Bounds s) (r : Report) :
    Safety.Bounds (s.handleMove r) := by
  unfold State.handleMove
  split
  · exact h.refuse _ _
  · exact (((h.setAccount _ _).produce _).judgeUnitOff).take _

theorem Safety.Bounds.handleWithdraw {s : State} (h : Safety.Bounds s) (r : Report) :
    Safety.Bounds (s.handleWithdraw r) := by
  unfold State.handleWithdraw
  split
  · exact h.refuse _ _
  · exact ((h.setAccount _ _).produce _).take _

theorem Safety.Bounds.closeTracked {s : State} (h : Safety.Bounds s) (slot : Nat) (c : Consignment) (t : Tracking) (w : Option Word) :
    Safety.Bounds (s.closeTracked slot c t w) := by
  unfold State.closeTracked
  refine ((Safety.Bounds.produce ?_ _).setAccount _ _).judgeUnitOff
  split
  · exact h
  · exact h.produce _

theorem Safety.Bounds.closeStaged {s : State} (h : Safety.Bounds s) (slot : Nat) (c : Consignment) (w : Option Word) :
    Safety.Bounds (s.closeStaged slot c w) := by
  exact ((h.produce _).setAccount _ _).latchIf _ _

theorem Safety.Bounds.handleHandover {s : State} (h : Safety.Bounds s) (r : Report) :
    Safety.Bounds (s.handleHandover r) := by
  unfold State.handleHandover
  repeat' split
  all_goals first
    | exact h
    | exact h.refuse _ _
    | exact (h.closeStaged _ _ _).take _
    | exact (h.closeTracked _ _ _ _).take _

theorem Safety.Bounds.handleQuery {s : State} (h : Safety.Bounds s) (r : Report) :
    Safety.Bounds (s.handleQuery r) := by
  unfold State.handleQuery
  split
  · exact h.refuse _ _
  · refine Safety.Bounds.take ?_ _
    exact h.transport rfl rfl rfl rfl rfl rfl

theorem Safety.Bounds.openAtDeadline {s : State} (h : Safety.Bounds s) (slot : Nat) (c : Consignment) (d : Nat) :
    Safety.Bounds (s.openAtDeadline slot c d) := by
  exact (((h.setAccount _ _).latchIf _ _).produce _).judgeUnitOff

theorem Safety.Bounds.gapAtDeadline {s : State} (h : Safety.Bounds s) (slot : Nat) (c : Consignment) (t : Tracking) (d : Nat) :
    Safety.Bounds (s.gapAtDeadline slot c t d) := by
  unfold State.gapAtDeadline
  split
  · exact ((h.setAccount _ _).latch _).produce _
  · exact h.setAccount _ _

theorem Safety.Bounds.expireStaging {s : State} (h : Safety.Bounds s) (slot : Nat) :
    Safety.Bounds (s.expireStaging slot) := by
  unfold State.expireStaging
  repeat' split
  all_goals first
    | exact h
    | exact h.openAtDeadline _ _ _

theorem Safety.Bounds.expireGap {s : State} (h : Safety.Bounds s) (slot : Nat) :
    Safety.Bounds (s.expireGap slot) := by
  unfold State.expireGap
  repeat' split
  all_goals first
    | exact h
    | exact h.gapAtDeadline _ _ _ _

theorem Safety.Bounds.takeDeadline {s : State} (h : Safety.Bounds s) (slot : Nat) :
    Safety.Bounds (s.takeDeadline slot) := by
  unfold State.takeDeadline
  repeat' split
  all_goals first
    | exact h
    | exact h.openAtDeadline _ _ _
    | exact h.gapAtDeadline _ _ _ _

theorem Safety.Bounds.takeFallen (fuel : Nat) {s : State} (h : Safety.Bounds s) :
    Safety.Bounds (takeFallen fuel s) := by
  induction fuel generalizing s with
  | zero => exact h
  | succ n ih =>
    unfold Machine.takeFallen
    split
    · exact h
    · split
      · exact h
      · next hc =>
        obtain ⟨k, rfl⟩ := State.chooseSlot_frame hc
        refine ih (Safety.Bounds.takeDeadline ?_ _)
        exact h.transport rfl rfl rfl rfl rfl rfl

theorem Safety.Bounds.takeAllFallen {s : State} (h : Safety.Bounds s) :
    Safety.Bounds s.takeAllFallen := by
  exact Safety.Bounds.takeFallen 96 h

theorem Safety.Bounds.handleArrive {s : State} (h : Safety.Bounds s) (r : Report) :
    Safety.Bounds (s.handleArrive r) := by
  unfold State.handleArrive
  repeat' split
  all_goals first
    | exact h.refuse _ _
    | (refine (Safety.Bounds.produce ?_ _).take _; exact h.transport rfl rfl rfl rfl rfl rfl)

theorem Safety.Bounds.handleDepart {s : State} (h : Safety.Bounds s) (r : Report) :
    Safety.Bounds (s.handleDepart r) := by
  unfold State.handleDepart
  repeat' split
  all_goals first
    | exact h.refuse _ _
    | (refine (Safety.Bounds.produce ?_ _).take _; exact h.transport rfl rfl rfl rfl rfl rfl)

theorem Safety.Bounds.handleStop {s : State} (h : Safety.Bounds s) (r : Report) :
    Safety.Bounds (s.handleStop r) := by
  unfold State.handleStop
  split
  · exact h.handleArrive r
  · exact h.handleDepart r

theorem Safety.Bounds.handleTime {s : State} (h : Safety.Bounds s) (r : Report) :
    Safety.Bounds (s.handleTime r) := by
  unfold State.handleTime
  split
  · exact h.refuse _ _
  · exact (h.produce _).take _

theorem Safety.Bounds.takeExport {s : State} (h : Safety.Bounds s) (r : Report) (l : LogState) :
    Safety.Bounds (s.takeExport r l) := by
  refine (Safety.Bounds.judgeNearFull ?_).take _
  exact h.transport rfl rfl rfl rfl rfl rfl

theorem Safety.Bounds.handleExported {s : State} (h : Safety.Bounds s) (r : Report) :
    Safety.Bounds (s.handleExported r) := by
  unfold State.handleExported
  repeat' split
  all_goals first
    | exact h.refuse _ _
    | exact h.takeExport _ _
    | (refine Safety.Bounds.askReader ?_ _; exact h.transport rfl rfl rfl rfl rfl rfl)

theorem Safety.Bounds.judgeExport {s : State} (h : Safety.Bounds s) (r : Report) (w : Option Word) :
    Safety.Bounds (s.judgeExport r w) := by
  unfold State.judgeExport
  repeat' split
  all_goals first
    | exact h.refuse _ _
    | exact h.takeExport _ _

theorem Safety.Bounds.handle {s : State} (h : Safety.Bounds s) (r : Report) :
    Safety.Bounds (s.handle r) := by
  unfold State.handle
  split
  exacts [h.handleReading r, h.handleLoad r, h.handleMove r, h.handleHandover r, h.handleWithdraw r,
    h.handleStop r, h.handleExported r, h.handleTime r, h.handleQuery r]

theorem Safety.Bounds.handOver {s : State} (h : Safety.Bounds s) (r : Report) :
    Safety.Bounds (s.handOver r) := by
  unfold State.handOver
  repeat' split
  all_goals first
    | exact h.refuse _ _
    | exact h.handle r

theorem Safety.Bounds.complete {s : State} (h : Safety.Bounds s) (r : Report) :
    Safety.Bounds (s.complete r) := by
  unfold State.complete
  repeat' split
  all_goals first
    | exact h
    | exact h.handOver r
    | exact h.transport rfl rfl rfl rfl rfl rfl

theorem Safety.Bounds.releaseWaiting {s : State} (h : Safety.Bounds s) :
    Safety.Bounds s.releaseWaiting := by
  unfold State.releaseWaiting
  split
  · exact h.transport rfl rfl rfl rfl rfl rfl
  · refine Safety.Bounds.handOver ?_ _
    exact h.transport rfl rfl rfl rfl rfl rfl

theorem Safety.Bounds.judgeHeader {s : State} (h : Safety.Bounds s) (w : Word) :
    Safety.Bounds (s.judgeHeader w) := by
  unfold State.judgeHeader
  repeat' split
  all_goals first
    | exact h.refuse _ _
    | exact h.transport rfl rfl rfl rfl rfl rfl

theorem Safety.Bounds.feed {s : State} (h : Safety.Bounds s) (offset : Nat) (w : Word) :
    Safety.Bounds (s.feed offset w) := by
  unfold State.feed
  repeat' split
  all_goals first
    | exact h
    | exact (h.refuseAssembly _).judgeHeader w
    | exact h.refuseAssembly _
    | (refine Safety.Bounds.complete ?_ _; exact h.transport rfl rfl rfl rfl rfl rfl)
    | exact h.transport rfl rfl rfl rfl rfl rfl

theorem Safety.Bounds.expireAssembly {s : State} (h : Safety.Bounds s) :
    Safety.Bounds s.expireAssembly := by
  unfold State.expireAssembly
  repeat' split
  all_goals first
    | exact h
    | exact h.refuseAssembly _

theorem Safety.Bounds.reportArrives {s : State} (h : Safety.Bounds s) (r : Report) :
    Safety.Bounds (s.reportArrives r) := by
  unfold State.reportArrives
  split
  · exact (h.complete r).settle s
  · exact h

theorem Safety.Bounds.memoryFault {s : State} (h : Safety.Bounds s) (a : HostAccess) :
    Safety.Bounds (s.memoryFault a) := by
  exact (h.accessError _ _).answer _ _

theorem Safety.Bounds.finishRead {s : State} (h : Safety.Bounds s) (a : HostAccess) (m : MemAnswer) :
    Safety.Bounds (s.finishRead a m) := by
  unfold State.finishRead
  split
  · exact h.answer _ _
  · exact h.memoryFault _

theorem Safety.Bounds.finishWrite {s : State} (h : Safety.Bounds s) (a : HostAccess) (m : MemAnswer) :
    Safety.Bounds (s.finishWrite a m) := by
  unfold State.finishWrite
  dsimp only
  repeat' split
  · exact (h.memWrite _ _ _).raiseLoad.answer _ _
  · exact (h.memWrite _ _ _).answer _ _
  · exact (h.memWrite _ _ _).memoryFault _

theorem Safety.Bounds.finishWindow {s : State} (h : Safety.Bounds s) (a : HostAccess) (o : Nat) (m : MemAnswer) :
    Safety.Bounds (s.finishWindow a o m) := by
  unfold State.finishWindow
  dsimp only
  split
  · exact ((h.memWrite _ _ _).feed _ _).answer _ _
  · exact (h.memWrite _ _ _).memoryFault _

theorem Safety.Bounds.finishRmwRead {s : State} (h : Safety.Bounds s) (a : HostAccess) (m : MemAnswer) :
    Safety.Bounds (s.finishRmwRead a m) := by
  unfold State.finishRmwRead
  split
  · exact h.askUpstream _ _
  · exact h.endLockout.memoryFault _

theorem Safety.Bounds.finishRmwWrite {s : State} (h : Safety.Bounds s) (a : HostAccess) (w : Word) (m : MemAnswer) :
    Safety.Bounds (s.finishRmwWrite a w m) := by
  unfold State.finishRmwWrite
  dsimp only
  split
  · exact (h.memWrite _ _ _).endLockout.answer _ _
  · exact (h.memWrite _ _ _).endLockout.memoryFault _

theorem Safety.Bounds.finishSuppressed {s : State} (h : Safety.Bounds s) (a : HostAccess) (r : RejectReason) :
    Safety.Bounds (s.finishSuppressed a r) := by
  exact (h.protectViolation _ _).answer _ _

theorem Safety.Bounds.finishJob {s : State} (h : Safety.Bounds s) (a : HostAccess) (j : HostJob) (m : MemAnswer) :
    Safety.Bounds (s.finishJob a j m) := by
  unfold State.finishJob
  split
  exacts [h.finishRead a m, h.finishWrite a m, h.finishWindow a _ m, h.finishRmwRead a m,
    h.finishRmwWrite a _ m, h.finishSuppressed a _]

theorem Safety.Bounds.assemble {s : State} (h : Safety.Bounds s) (e : QEntry) (l : LogState) :
    Safety.Bounds (s.assemble e l) := by
  refine Safety.Bounds.askWriter ?_
  exact h.transport rfl rfl rfl rfl rfl rfl

theorem Safety.Bounds.waitForSpace {s : State} (h : Safety.Bounds s) :
    Safety.Bounds s.waitForSpace := by
  refine Safety.Bounds.latch ?_ _
  exact h.transport rfl rfl rfl rfl rfl rfl

theorem Safety.Bounds.takeEntry {s : State} (h : Safety.Bounds s) :
    Safety.Bounds s.takeEntry := by
  unfold State.takeEntry
  repeat' split
  all_goals first
    | exact h
    | exact h.waitForSpace
    | exact h.assemble _ _

theorem Safety.Bounds.findSpace {s : State} (h : Safety.Bounds s) :
    Safety.Bounds s.findSpace := by
  unfold State.findSpace
  repeat' split
  all_goals first
    | exact h
    | exact h.assemble _ _

theorem Safety.Bounds.haltWriter {s : State} (h : Safety.Bounds s) :
    Safety.Bounds s.haltWriter := by
  refine (Safety.Bounds.endLockout ?_).latch _
  exact h.transport rfl rfl rfl rfl rfl rfl

theorem Safety.Bounds.wordWritten {s : State} (h : Safety.Bounds s) (l : LogState) (ws : List Word) (c : Half) (n : Nat) (m : MemAnswer) :
    Safety.Bounds (s.wordWritten l ws c n m) := by
  unfold State.wordWritten
  dsimp only
  split
  · refine Safety.Bounds.askWriter ?_
    exact (h.memWrite _ _ _).transport rfl rfl rfl rfl rfl rfl
  · exact (h.memWrite _ _ _).haltWriter

theorem Safety.Bounds.removeFront {s : State} (h : Safety.Bounds s) :
    Safety.Bounds s.removeFront := by
  have hq := h.queue
  unfold State.removeFront
  split
  · exact ⟨h.memory, h.table, by simp; omega, h.counters, h.seconds, h.sub, h.fairness⟩
  · next hl =>
    refine ⟨h.memory, h.table, ?_, h.counters, h.seconds, h.sub, h.fairness⟩
    simp
    omega

theorem Safety.Bounds.accountVerified {s : State} (h : Safety.Bounds s) (e : QEntry) (w : Word) :
    Safety.Bounds (s.accountVerified e w) := by
  unfold State.accountVerified
  repeat' split
  all_goals first
    | exact h
    | exact h.setAccount _ _

theorem Safety.Bounds.commit {s : State} (h : Safety.Bounds s) (l : LogState) (ws : List Word) (c : Half) :
    Safety.Bounds (s.commit l ws c) := by
  unfold State.commit
  split
  · exact h
  · refine Safety.Bounds.judgeNearFull (Safety.Bounds.endLockout (Safety.Bounds.accountVerified ?_ _ _))
    have key : ∀ t : State, Safety.Bounds t → ∀ r : Receipt,
        Safety.Bounds { t.removeFront with receipt := r } := fun t ht r =>
      ht.removeFront.transport rfl rfl rfl rfl rfl rfl
    refine key _ ?_ _
    exact h.transport rfl rfl rfl rfl rfl rfl

theorem Safety.Bounds.readBack {s : State} (h : Safety.Bounds s) (l : LogState) (ws : List Word) (c : Half) (m : MemAnswer) :
    Safety.Bounds (s.readBack l ws c m) := by
  unfold State.readBack
  repeat' split
  all_goals first
    | exact h.commit _ _ _
    | exact h.haltWriter

theorem Safety.Bounds.beginRewrite {s : State} (h : Safety.Bounds s) :
    Safety.Bounds s.beginRewrite := by
  unfold State.beginRewrite
  split
  · exact h.askStatus
  · exact h

theorem Safety.Bounds.nextStatusWord {s : State} (h : Safety.Bounds s) (p : List Word) (n : Nat) :
    Safety.Bounds (s.nextStatusWord p n) := by
  exact h.transport rfl rfl rfl rfl rfl rfl

theorem Safety.Bounds.endRewrite {s : State} (h : Safety.Bounds s) :
    Safety.Bounds s.endRewrite := by
  exact h.transport rfl rfl rfl rfl rfl rfl

theorem Safety.Bounds.startScanIfDue {s : State} (h : Safety.Bounds s) :
    Safety.Bounds s.startScanIfDue := by
  unfold State.startScanIfDue
  split
  · refine Safety.Bounds.askReader ?_ _
    exact h.transport rfl rfl rfl rfl rfl rfl
  · exact h

theorem Safety.Bounds.statusWritten {s : State} (h : Safety.Bounds s) (p : List Word) (n : Nat) (m : MemAnswer) :
    Safety.Bounds (s.statusWritten p n m) := by
  unfold State.statusWritten
  dsimp only
  repeat' split
  · exact (h.memWrite _ _ _).nextStatusWord _ _
  · exact (h.memWrite _ _ _).endRewrite.beginRewrite.startScanIfDue
  · exact ((h.memWrite _ _ _).endRewrite.latch _).startScanIfDue

theorem Safety.Bounds.clearTransients {s : State} (h : Safety.Bounds s) :
    Safety.Bounds s.clearTransients := by
  refine Safety.Bounds.refreshNearFull ⟨h.memory, h.table, h.queue, h.counters, h.seconds, h.sub, ?_⟩
  exact Nat.zero_le 8

theorem Safety.Bounds.restartValues {s : State} (h : Safety.Bounds s) :
    Safety.Bounds s.restartValues := by
  exact h.clearTransients.transport rfl rfl rfl rfl rfl rfl

theorem Safety.Bounds.enter {s : State} (h : Safety.Bounds s) (p : PartState) :
    Safety.Bounds (s.enter p) := by
  exact h.transport rfl rfl rfl rfl rfl rfl

theorem Safety.Bounds.beginReset {s : State} (h : Safety.Bounds s) :
    Safety.Bounds s.beginReset := by
  exact h.restartValues.transport rfl rfl rfl rfl rfl rfl

theorem Safety.Bounds.clearingStep {s : State} (h : Safety.Bounds s) (o : ColdOutcome) :
    Safety.Bounds (s.clearingStep o) := by
  refine Safety.Bounds.clearTransients ⟨h.memory, by simp, by simp, ?_, by simp, by simp, h.fairness⟩
  simp [Safety.countersBounded, Counters.zero]

theorem Safety.Bounds.coldStart {s : State} (h : Safety.Bounds s) (o : ColdOutcome) :
    Safety.Bounds (s.coldStart o) := by
  exact (h.clearingStep o).raiseLoad

theorem Safety.Bounds.rerun {s : State} (h : Safety.Bounds s) :
    Safety.Bounds s.rerun := by
  refine Safety.Bounds.raiseLoad ?_
  exact h.transport rfl rfl rfl rfl rfl rfl

theorem Safety.Bounds.putInForce {s : State} (h : Safety.Bounds s) (c : Setup) :
    Safety.Bounds (s.putInForce c) := by
  exact h.transport rfl rfl rfl rfl rfl rfl

theorem Safety.Bounds.relocate {s : State} (h : Safety.Bounds s) :
    Safety.Bounds s.relocate := by
  exact h.transport rfl rfl rfl rfl rfl rfl

theorem Safety.Bounds.acceptRunning {s : State} (h : Safety.Bounds s) (c : Setup) :
    Safety.Bounds (s.acceptRunning c) := by
  unfold State.acceptRunning
  dsimp only
  refine Safety.Bounds.fullRewrite (Safety.Bounds.produce (Safety.Bounds.judgeNearFull (Safety.Bounds.refuseAssembly ?_ _)) _)
  split
  · exact (h.putInForce c).relocate.transport rfl rfl rfl rfl rfl rfl
  · exact (h.putInForce c).transport rfl rfl rfl rfl rfl rfl

theorem Safety.Bounds.acceptCold {s : State} (h : Safety.Bounds s) (c : Setup) :
    Safety.Bounds (s.acceptCold c) := by
  refine (Safety.Bounds.pump ?_).fullRewrite
  exact (h.putInForce c).transport rfl rfl rfl rfl rfl rfl

theorem Safety.Bounds.rejectLoad {s : State} (h : Safety.Bounds s) (r : SetupReject) :
    Safety.Bounds (s.rejectLoad r) := by
  unfold State.rejectLoad
  dsimp only
  split
  · refine Safety.Bounds.latch (Safety.Bounds.enter ?_ _) _
    exact h.transport rfl rfl rfl rfl rfl rfl
  · refine Safety.Bounds.latch ?_ _
    exact h.transport rfl rfl rfl rfl rfl rfl

theorem Safety.Bounds.decideLoad {s : State} (h : Safety.Bounds s) (r : Option SetupReject) (c : Setup) :
    Safety.Bounds (s.decideLoad r c) := by
  unfold State.decideLoad
  repeat' split
  · exact h.rejectLoad _
  · exact h.acceptRunning c
  · exact h.acceptCold c

theorem Safety.Bounds.loadWord {s : State} (h : Safety.Bounds s) (ws : List Word) (w : Option Word) :
    Safety.Bounds (s.loadWord ws w) := by
  unfold State.loadWord
  split
  · exact h.decideLoad _ _
  · dsimp only
    split
    · refine Safety.Bounds.askReader ?_ _
      exact h.transport rfl rfl rfl rfl rfl rfl
    · exact h.decideLoad _ _

theorem Safety.Bounds.queueHeld {s : State} (h : Safety.Bounds s) :
    Safety.Bounds s.queueHeld := by
  unfold State.queueHeld
  split
  · refine Safety.Bounds.produce ?_ _
    exact h.transport rfl rfl rfl rfl rfl rfl
  · exact h

theorem Safety.Bounds.endScan {s : State} (h : Safety.Bounds s) (c : Scanner) :
    Safety.Bounds (s.endScan c) := by
  unfold State.endScan
  dsimp only
  refine Safety.Bounds.transport (Safety.Bounds.latch (Safety.Bounds.judgeNearFull (Safety.Bounds.queueHeld (Safety.Bounds.produce ?_ _))) _)
    rfl rfl rfl rfl rfl rfl
  exact h.transport rfl rfl rfl rfl rfl rfl

theorem Safety.Bounds.scanWord {s : State} (h : Safety.Bounds s) (c : Scanner) (w : Option Word) :
    Safety.Bounds (s.scanWord c w) := by
  unfold State.scanWord
  dsimp only
  split
  · exact h.endScan _
  · refine Safety.Bounds.askReader ?_ _
    exact h.transport rfl rfl rfl rfl rfl rfl

theorem Safety.Bounds.abandonJob {s : State} (h : Safety.Bounds s) (a : HostAccess) (j : HostJob) :
    Safety.Bounds (s.abandonJob a j) := by
  unfold State.abandonJob
  split
  all_goals first
    | exact h
    | exact h.memAbandon _ _

theorem Safety.Bounds.abandonWriter {s : State} (h : Safety.Bounds s) :
    Safety.Bounds s.abandonWriter := by
  unfold State.abandonWriter
  split
  · exact h.memAbandon _ _
  · exact h

theorem Safety.Bounds.abandonStatus {s : State} (h : Safety.Bounds s) :
    Safety.Bounds s.abandonStatus := by
  unfold State.abandonStatus
  split
  · exact h.memAbandon _ _
  · exact h

theorem Safety.Bounds.abandonAccess {s : State} (h : Safety.Bounds s) :
    Safety.Bounds s.abandonAccess := by
  unfold State.abandonAccess
  repeat' split
  all_goals first
    | exact h
    | exact h.abandonJob _ _
    | exact h.abandonWriter
    | exact h.abandonStatus

theorem Safety.Bounds.loseDomain {s : State} (h : Safety.Bounds s) :
    Safety.Bounds s.loseDomain := by
  unfold State.loseDomain
  split
  · exact h.transport rfl rfl rfl rfl rfl rfl
  · exact h

theorem Safety.Bounds.dropPort {s : State} (h : Safety.Bounds s) :
    Safety.Bounds s.dropPort := by
  exact h.transport rfl rfl rfl rfl rfl rfl

theorem Safety.Bounds.loseMainWith {s : State} (h : Safety.Bounds s) (p : Option PowerLoss) (b : Bool) :
    Safety.Bounds (s.loseMainWith p b) := by
  unfold State.loseMainWith
  dsimp only
  split
  · exact h.abandonAccess.dropPort.clearTransients.transport rfl rfl rfl rfl rfl rfl
  · refine Safety.Bounds.loseDomain ?_
    exact h.abandonAccess.dropPort.clearTransients.transport rfl rfl rfl rfl rfl rfl

theorem Safety.Bounds.loseMain {s : State} (h : Safety.Bounds s) (b : Bool) :
    Safety.Bounds (s.loseMain b) :=
  h.loseMainWith _ _

theorem Safety.Bounds.loseBackup {s : State} (h : Safety.Bounds s) :
    Safety.Bounds s.loseBackup := by
  unfold State.loseBackup
  dsimp only
  split
  · exact h.transport rfl rfl rfl rfl rfl rfl
  · refine Safety.Bounds.loseDomain ?_
    exact h.transport rfl rfl rfl rfl rfl rfl

theorem Safety.Bounds.noteReturn {s : State} (h : Safety.Bounds s) :
    Safety.Bounds s.noteReturn := by
  exact h.transport rfl rfl rfl rfl rfl rfl

theorem Safety.Bounds.runningAgain {s : State} (h : Safety.Bounds s) :
    Safety.Bounds s.runningAgain := by
  exact (h.enter _).pump.fullRewrite.takeEntry

theorem Safety.Bounds.queuePower {s : State} (h : Safety.Bounds s) :
    Safety.Bounds s.queuePower :=
  h.produce _

theorem Safety.Bounds.returnUpTo {s : State} (h : Safety.Bounds s) (p : ReturnPoint) :
    Safety.Bounds (s.returnUpTo p) := by
  unfold State.returnUpTo
  split
  · exact h.restartValues
  · exact h.restartValues.noteReturn
  · exact h.restartValues.noteReturn.queuePower.takeFallen _
  · exact h.restartValues.noteReturn.queuePower.takeAllFallen.latch _

theorem Safety.Bounds.powerReturn {s : State} (h : Safety.Bounds s) :
    Safety.Bounds s.powerReturn :=
  (h.returnUpTo _).runningAgain

theorem Safety.Bounds.returnOrLose {s : State} (h : Safety.Bounds s) (l : Option ReturnLoss) :
    Safety.Bounds (s.returnOrLose l) := by
  unfold State.returnOrLose
  split
  · exact h.powerReturn
  · exact (h.returnUpTo _).loseMainWith _ _

theorem Safety.Bounds.startFromWait {s : State} (h : Safety.Bounds s) (w : WaitEnd) :
    Safety.Bounds (s.startFromWait w) :=
  h.transport rfl rfl rfl rfl rfl rfl

theorem Safety.Bounds.completeWait {s : State} (h : Safety.Bounds s) (w : WaitEnd) :
    Safety.Bounds (s.completeWait w) := by
  unfold State.completeWait
  split
  · exact (h.startFromWait w).returnOrLose _
  · exact (h.startFromWait w).coldStart _

theorem Safety.Bounds.finishWhole {s : State} (h : Safety.Bounds s) (a : HostAccess) (j : HostJob) (m n : MemAnswer) :
    Safety.Bounds (s.finishWhole a j m n) := by
  unfold State.finishWhole
  dsimp only
  split
  · exact (h.finishJob _ _ _).finishRmwWrite _ _ _
  · exact h.finishJob _ _ _

theorem Safety.Bounds.finishTaken {s : State} (h : Safety.Bounds s) (m n : MemAnswer) :
    Safety.Bounds (s.finishTaken m n) := by
  unfold State.finishTaken
  split
  · exact h.finishWhole _ _ _ _
  · exact h

theorem Safety.Bounds.endWriterAccess {s : State} (h : Safety.Bounds s) (m : MemAnswer) :
    Safety.Bounds (s.endWriterAccess m) := by
  unfold State.endWriterAccess
  split
  · exact h.memWrite _ _ _
  · exact h

theorem Safety.Bounds.endStatusAccess {s : State} (h : Safety.Bounds s) (m : MemAnswer) :
    Safety.Bounds (s.endStatusAccess m) := by
  unfold State.endStatusAccess
  split
  · exact (h.memWrite _ _ _).latchIf _ _
  · exact h

theorem Safety.Bounds.endWork {s : State} (h : Safety.Bounds s) (r : ResetAnswers) :
    Safety.Bounds (s.endWork r) := by
  unfold State.endWork
  split
  · exact h.freePort.finishTaken _ _
  · exact h.freePort.finishTaken _ _
  · exact (h.endWriterAccess _).freePort.finishTaken _ _
  · exact h.freePort.finishTaken _ _
  · exact (h.endStatusAccess _).freePort.finishTaken _ _

theorem Safety.Bounds.assertPin {s : State} (h : Safety.Bounds s) :
    Safety.Bounds s.assertPin := by
  exact h.transport rfl rfl rfl rfl rfl rfl

theorem Safety.Bounds.actReset {s : State} (h : Safety.Bounds s) (r : ResetAnswers) :
    Safety.Bounds (s.actReset r) :=
  (h.endWork r).beginReset

theorem Safety.Bounds.heldReset {s : State} (h : Safety.Bounds s) (r : ResetAnswers) :
    Safety.Bounds (s.heldReset r) := by
  unfold State.heldReset
  split
  · exact (h.actReset r).settlePorts _
  · exact h

theorem Safety.Bounds.assertReset {s : State} (h : Safety.Bounds s) (r : ResetAnswers) :
    Safety.Bounds (s.assertReset r) := by
  unfold State.assertReset
  split
  · exact (h.actReset r).assertPin
  · exact h.assertPin

theorem Safety.Bounds.resetReturn {s : State} (h : Safety.Bounds s) :
    Safety.Bounds s.resetReturn := by
  refine Safety.Bounds.runningAgain ?_
  exact ((h.produce _).latch _).transport rfl rfl rfl rfl rfl rfl

theorem Safety.Bounds.releaseReset {s : State} (h : Safety.Bounds s) :
    Safety.Bounds s.releaseReset := by
  unfold State.releaseReset
  dsimp only
  repeat' split
  · refine Safety.Bounds.resetReturn ?_
    exact h.transport rfl rfl rfl rfl rfl rfl
  · refine Safety.Bounds.rerun ?_
    exact h.transport rfl rfl rfl rfl rfl rfl
  · exact h.transport rfl rfl rfl rfl rfl rfl

theorem Safety.Bounds.expireMachines {s : State} (h : Safety.Bounds s) :
    Safety.Bounds s.expireMachines := by
  exact h.transport rfl rfl rfl rfl rfl rfl

theorem Safety.Bounds.expireSecond {s : State} (h : Safety.Bounds s) :
    Safety.Bounds s.expireSecond := by
  unfold State.expireSecond
  split
  · exact h
  · exact h.expireMachines.expireCadence.takeAllFallen

theorem Clock.advance_bounds {c : Clock} (hs : c.seconds ≤ maxWord) (hb : c.sub ≤ 63) :
    c.advance.seconds ≤ maxWord ∧ c.advance.sub ≤ 63 := by
  unfold Clock.advance
  split
  · exact ⟨hs, hb⟩
  · split
    · exact ⟨by dsimp only; omega, by dsimp only; omega⟩
    · exact ⟨hs, by dsimp only; omega⟩

theorem Safety.Bounds.advanceClock {s : State} (h : Safety.Bounds s) :
    Safety.Bounds s.advanceClock := by
  have h1 := h.expireAssembly
  have key : ∀ t : State, Safety.Bounds t →
      Safety.Bounds { t with clock := t.clock.advance } := fun t ht =>
    have hc := Clock.advance_bounds ht.seconds ht.sub
    ⟨ht.memory, ht.table, ht.queue, ht.counters, hc.1, hc.2, ht.fairness⟩
  unfold State.advanceClock
  dsimp only
  split
  · exact key _ h1.expireSecond
  · exact key _ h1

end Sys2Proof
end

