-- ==== Sys2Proof/Laws/Reports.lean ====
section
/-! SUPPORT. Finding accounts and slots, the hand-over of a report at its handler, and the words of
reports. -/

namespace Sys2Proof

open Machine

theorem Machine.State.account_of_getElem? {s : Machine.State} {slot : Nat} {e : Entry}
    (h : s.accounts[slot]? = some e) : s.account slot = e := by
  unfold Machine.State.account
  rw [List.getD_eq_getElem?_getD, h]
  rfl

theorem lowestFree_of_lowestFreeAt {s : Machine.State} {slot : Nat}
    (h : Safety.lowestFreeAt s slot) : lowestFree s.accounts = some slot := by
  obtain ⟨h1, h2⟩ := h
  obtain ⟨hl, he⟩ := List.getElem?_eq_some_iff.1 h1
  unfold lowestFree
  rw [List.findIdx?_eq_some_iff_getElem]
  refine ⟨hl, by simp [he], fun j hj => ?_⟩
  have hj' : j < s.accounts.length := by omega
  have := h2 j hj
  simp only [List.getElem?_eq_getElem hj'] at this
  simpa using this

theorem lowestFreeAt_of_lowestFree {s : Machine.State} {slot : Nat}
    (h : lowestFree s.accounts = some slot) : Safety.lowestFreeAt s slot := by
  unfold lowestFree at h
  rw [List.findIdx?_eq_some_iff_getElem] at h
  obtain ⟨hl, he, hj⟩ := h
  refine ⟨by simpa [List.getElem?_eq_getElem hl] using he, fun j hjs => ?_⟩
  have hj' : j < s.accounts.length := by omega
  have := hj j hjs
  simpa [List.getElem?_eq_getElem hj'] using this

theorem findReference_eq_none_iff {s : Machine.State} {reference : BitVec 64} :
    findReference s.accounts reference = none ↔ Safety.notAboard s reference := by
  unfold findReference Safety.notAboard Entry.carries
  rw [List.findIdx?_eq_none_iff]
  constructor
  · intro h e he c hc
    have := h e he
    simpa [hc] using this
  · intro h e he
    cases hc : e.consignment with
    | none => rfl
    | some c => simpa using h e he c hc

theorem Machine.Entry.carries_iff {reference : BitVec 64} {e : Entry} :
    e.carries reference = true ↔ ∃ c, e.consignment = some c ∧ c.reference = reference := by
  unfold Entry.carries
  cases e.consignment <;> simp

theorem findReference_eq_some_iff {s : Machine.State} {reference : BitVec 64} {slot : Nat} {e : Entry}
    (he : s.accounts[slot]? = some e) :
    findReference s.accounts reference = some slot ↔ Safety.aboardAt s reference slot e := by
  obtain ⟨hl, hg⟩ := List.getElem?_eq_some_iff.1 he
  unfold findReference
  rw [List.findIdx?_eq_some_iff_getElem]
  constructor
  · rintro ⟨_, hc, hj⟩
    refine ⟨he, Entry.carries_iff.1 (hg ▸ hc), fun j hjs d hd c hc' hr => ?_⟩
    obtain ⟨hjl, hjg⟩ := List.getElem?_eq_some_iff.1 hd
    exact hj j hjs (Entry.carries_iff.2 ⟨c, hjg ▸ hc', hr⟩)
  · rintro ⟨_, hc, hj⟩
    refine ⟨hl, hg ▸ Entry.carries_iff.2 hc, fun j hjs hcar => ?_⟩
    have hjl : j < s.accounts.length := by omega
    obtain ⟨c, hc', hr⟩ := Entry.carries_iff.1 hcar
    exact hj j hjs _ (List.getElem?_eq_getElem hjl) c hc' hr

/-- A report that passes the encoding checks at its handler is handled at once. -/
theorem Machine.State.reportArrives_handle {s : Machine.State} (h : Safety.AtHandler s) {r : Report}
    (he : encodingOk s.cfg r = true) : s.reportArrives r = (s.handle r).settle s := by
  simp [Machine.State.reportArrives, h.running, PartState.reportsComplete, Machine.State.complete,
    h.notHandling, Machine.State.handOver, Machine.State.ready, h.notLoading, he]

/-- A report that fails them is refused BAD_FIELD. -/
theorem Machine.State.reportArrives_badField {s : Machine.State} (h : Safety.AtHandler s) {r : Report}
    (he : encodingOk s.cfg r = false) :
    s.reportArrives r = (s.refuse r.seq .badField).settle s := by
  simp [Machine.State.reportArrives, h.running, PartState.reportsComplete, Machine.State.complete,
    h.notHandling, Machine.State.handOver, Machine.State.ready, h.notLoading, he]

theorem Machine.State.refuse_eq (s : Machine.State) (seq : Half) (r : ReportRefusal) :
    s.refuse seq r = Safety.refused s seq r := rfl

theorem Machine.State.memWrite_eq (s : Machine.State) (m : MemAnswer) (a : Nat) (w : Word) :
    s.memWrite m a w = Safety.written s m a w := by
  cases m <;> simp [Machine.State.memWrite, Safety.written, Safety.wordLeft]

/-- With no access held and none waiting behind, the upstream port stands as it is. -/
theorem Machine.State.pump_idle {t : Machine.State} (h1 : t.port.behind = [])
    (h2 : ∀ a, t.port.current ≠ some { acc := a, phase := .held }) : t.pump = t := by
  have h0 : t.judgeHeld = t := by
    unfold Machine.State.judgeHeld
    split
    · next a h => exact absurd h (h2 a)
    · rfl
  have h3 : ({ t with port := { t.port with behind := [] } } : Machine.State) = t := by
    have : t.port = { t.port with behind := [] } := by rw [← h1]
    rw [← this]
  simp only [Machine.State.pump, h0, h1, takeBehind, h3]

/-- A line just judged and sealed is at its level (R186). -/
theorem Machine.State.judgeLine_seal_line (t : Machine.State)
    (h : t.judgeLine.seal.supply.domainHeld = true) :
    t.judgeLine.seal.alert.line = t.judgeLine.seal.lineLevel := by
  unfold Machine.State.judgeLine at *
  by_cases hd : t.supply.domainHeld = true
  · rw [if_pos hd]; rfl
  · rw [if_neg hd] at h; exact absurd h hd

theorem Machine.State.settle_settled (t s : Machine.State) : Safety.Settled (t.settle s) :=
  ⟨rfl, Machine.State.judgeLine_seal_line _⟩

theorem Machine.State.settlePorts_settled (t s : Machine.State) : Safety.Settled (t.settlePorts s) :=
  ⟨rfl, Machine.State.judgeLine_seal_line _⟩

end Sys2Proof
end

