-- ==== Sys2Proof/Laws/Restart.lean ====
section
/-! SUPPORT. What a supply loss, a restart, a held reset assertion and the start of the log scan do and
leave (R32, R79, R198, R204, R206). -/

namespace Sys2Proof.Machine

/-- A restart after a loss leaves what a restart alone leaves (R32). -/
@[simp] theorem Compartment.restart_loseTransient (c : Compartment) :
    c.loseTransient.restart = c.restart := rfl

/-- What is lost of a compartment record is no part of what is retained (R198). -/
@[simp] theorem Compartment.retained_loseTransient (c : Compartment) :
    c.loseTransient.retained = c.retained := rfl

/-- A loss of the transient state leaves the retained state as it was (R198). -/
@[simp] theorem State.retained_clearTransients (s : State) : s.clearTransients.retained = s.retained := by
  simp [State.retained, State.clearTransients, State.refreshNearFull, Function.comp_def]

/-- No more than the amount is allowance dose (R77, R79). -/
theorem allowanceTakes_le (budget total amount : Nat) : allowanceTakes budget total amount ≤ amount := by
  unfold allowanceTakes
  split
  · exact Nat.le_refl _
  · exact Nat.min_le_left _ _

/-- The highest budget takes the whole amount (R79). -/
@[simp] theorem allowanceTakes_max (total amount : Nat) :
    allowanceTakes maxWord total amount = amount := by
  simp [allowanceTakes]

/-- With the reset input not asserted nothing is held (R203). -/
theorem State.heldReset_low {s : State} (h : s.supply.resetPin = false) (r : ResetAnswers) :
    s.heldReset r = s := by
  simp [State.heldReset, h]

/-- In a part state that does not take the reset an assertion goes on waiting (R196, R205). -/
theorem State.heldReset_waits {s : State} (h : s.supply.part.takesReset = false) (r : ResetAnswers) :
    s.heldReset r = s := by
  simp [State.heldReset, h]

/-- A held assertion acts where the part takes it, and the operation settles (R203, R205). -/
theorem State.heldReset_acts {s : State} (hp : s.supply.resetPin = true)
    (ht : s.supply.part.takesReset = true) (r : ResetAnswers) :
    s.heldReset r = (s.actReset r).settlePorts s := by
  simp [State.heldReset, hp, ht]

/-- What arrives in STARTING is no part of what is retained (R198). -/
@[simp] theorem State.retained_startFromWait (s : State) (w : WaitEnd) :
    (s.startFromWait w).retained = s.retained := rfl

/-- With nothing arriving and no assertion the wait alone ends (R200). -/
theorem State.startFromWait_quiet (s : State) (intact : Bool) (loss : Option ReturnLoss)
    (held : ResetAnswers) :
    s.startFromWait { intact := intact, arriving := [], asserted := false, loss := loss, held := held } =
      { s with supply := { s.supply with stableWait := false } } := by
  simp [State.startFromWait]

/-- In SCANNING with no scan begun the end of the picture starts the log scan (R206). -/
theorem State.startScanIfDue_due {s : State} (hp : s.supply.part = .scanning) (hs : s.scanner = none) :
    s.startScanIfDue = s.startScan := if_pos ⟨hp, hs⟩

/-- Elsewhere, or with the scan begun, the end of a picture starts no scan (R206). -/
theorem State.startScanIfDue_not {s : State} (h : s.supply.part ≠ .scanning ∨ s.scanner ≠ none) :
    s.startScanIfDue = s := if_neg (fun ⟨hp, hs⟩ => h.elim (· hp) (· hs))

/-- Bringing a host access to its end leaves the clock (R204). -/
@[simp] theorem State.finishJob_clock (s : State) (a : HostAccess) (job : HostJob) (m : MemAnswer) :
    (s.finishJob a job m).clock = s.clock := by
  cases job <;> simp only [State.finishJob, State.finishRead, State.finishWrite, State.finishWindow,
    State.finishRmwRead, State.finishRmwWrite, State.finishSuppressed] <;> repeat' split
  all_goals simp [State.memoryFault, State.raiseLoad]

/-- Bringing work in progress to its end leaves the clock (R204). -/
@[simp] theorem State.endWork_clock (s : State) (r : ResetAnswers) : (s.endWork r).clock = s.clock := by
  have h : ∀ (t : State) (m n : MemAnswer), (t.finishTaken m n).clock = t.clock := by
    intro t m n
    unfold State.finishTaken State.finishWhole
    split
    · dsimp only
      split
      · simp only [State.finishRmwWrite]
        split <;> simp [State.memoryFault]
      · simp
    · rfl
  unfold State.endWork State.endWriterAccess State.endStatusAccess
  repeat' split
  all_goals simp [h]

end Sys2Proof.Machine
end

