-- ==== Sys2Proof/WellFormed.lean ====
section
/-! DEFINITION. Which operands a command may carry. Everything else about an operand is judged by the
part itself (a report field outside its encoding is refused BAD_FIELD, R105). -/

namespace Sys2Proof

/-- A READING header names 3, 5, 7 or 9 body words (R94). -/
def readingLengthOk (n : Nat) : Bool := n == 3 || n == 5 || n == 7 || n == 9

/-- A slot is 0 to 47 (R1). -/
def slotOk (n : Nat) : Bool := n < 48

/-- A compartment is 0 to 3 (00, Figures that hold throughout). -/
def compartmentOk (n : Nat) : Bool := n < 4

/-- The command's operands are of the row's form. -/
def Instr.wellFormed : Instr → Bool
  | .reading _ _ body => readingLengthOk body.length
  | .stagingDeadline slot => slotOk slot
  | .gapDeadline slot => slotOk slot
  | .graceExpiry compartment _ => compartmentOk compartment
  | .recoveryExpiry compartment _ => compartmentOk compartment
  | .hostAccess _ | .passThroughRead _ | .passThroughWrite _ | .rmwReadDone _ | .rmwWriteDone _
  | .suppressedWrite _ | .reportWindowWrite _ | .narrowWindowWrite _ _ _ | .timedOut
  | .load _ _ _ _ | .move _ _ _ _ | .withdraw _ _ _ | .handover _ _ _ _ | .arrive _ _ _ _
  | .depart _ _ _ _ | .exported _ _ _ _ | .exportCheckRead _ | .time _ _ _ _ | .query _ _ _
  | .acknowledge _ | .clearCounters _ | .loadTrigger | .setupLoadRead _ | .writerTakeEntry
  | .spaceFound | .writerWordWrite _ | .trailerReadBack _ | .statusRewrite | .statusWordWrite _
  | .expectedArrivalDeadline | .mainSupplyLoss _ | .backupSupplyLoss | .mainSupplyReturn
  | .stableWaitComplete _ | .resetAssert _ _ _ | .resetRelease | .logScanRead _
  | .chillClockAdvance => true

end Sys2Proof
end

