-- ==== Sys2Proof/Tests/Slice0.lean ====
section
/-! SUPPORT. The package's own tests: the well-formedness smoke, one or two small steps per command, and a
witness for the hypotheses of every statement. -/

namespace Sys2Proof.Tests

open Machine

set_option Elab.async false

/-! ## Well-formedness: one ill-formed term for each check -/

theorem test_wellFormed_reading : (Instr.reading 1 0 [0, 0, 0]).wellFormed = true := by decide
theorem test_illFormed_reading : (Instr.reading 1 0 [0, 0, 0, 0]).wellFormed = false := by decide
theorem test_illFormed_reading_empty : (Instr.reading 1 0 []).wellFormed = false := by decide
theorem test_illFormed_staging : (Instr.stagingDeadline 48).wellFormed = false := by decide
theorem test_illFormed_gap : (Instr.gapDeadline 48).wellFormed = false := by decide
theorem test_illFormed_grace : (Instr.graceExpiry 4 .door).wellFormed = false := by decide
theorem test_illFormed_recovery : (Instr.recoveryExpiry 4 .defrost).wellFormed = false := by decide
theorem test_wellFormed_last : (Instr.gapDeadline 47).wellFormed = true := by decide

/-! ## A small state: one setup, RUNNING -/

/-- Two halves of a word, signed. -/
def pair (a b : Int) : Word := BitVec.ofInt 16 a ++ BitVec.ofInt 16 b

/-- Words 0 to 15: capacity 4, status at 0x400, window at 0x500, log of 4,096 words at 0x10000, two
compartments without probe B, period 60, window 10, gap limit 600, staging limit 1,200. -/
def figures : List Word :=
  [0x5E480001, 4, 0x400, 0x500, 0x10000, 4096, 256, 2, pair 60 10, pair 600 1200, 0x0A03, pair 900 90,
    pair 330 600, 0x1FFF, 0, 0]

/-- Band class 0: 0 to 5.0 degrees, hard -2.0 to 12.0, dose 6,000, allowance 9,000, 1,800 s. -/
def band : List Word := [pair 0 50, pair (-20) 120, 6000, 9000, 0x80000000 + 1800]

/-- Words 0 to 62. -/
def covered : List Word := figures ++ band ++ List.replicate 42 0

/-- The block with its check word. -/
def block : Setup := { words := covered ++ [35401] }

/-- RUNNING at second 1,000 and stop 7, the log empty, nothing aboard. -/
def home : State :=
  { State.reset with
    clock := { seconds := 1000, sub := 0 }
    supply := { State.reset.supply with part := .running, retainedValid := true, coldOutcome := none }
    setup := { inForce := some block, lastResult := .accepted, load := none, heldRecord := false }
    compartments := coldCompartments block
    stop := some 7
    writer :=
      { state := .idle, log := some { head := 0, tail := 0, used := 0, nextSeq := 1 }
        chain := checkStart, nearFull := false }
    arbiter := Arbiter.idle }

/-- A consignment of band class 0 in compartment 1. -/
def cargo : Consignment := { reference := 5, compartment := 1, band := 0, verdict := .clean }

/-- Tracked since second 900. -/
def tracking : Tracking :=
  { opening := { time := 900, recordSeq := some 9 }, excursion := none
    totals := Totals.zero, lastGood := 990, gapDeadline := some 1000 }

/-- An excursion under way. -/
def drift : Excursion := { start := 980, peak := 20, allowed := 100, brk := 50, unallowed := 10 }

/-- `home` with an entry in slot 0. -/
def holding (e : Entry) : State := { home with accounts := home.accounts.set 0 e }

/-- `home` with a full queue. -/
def full : State :=
  { home with queue := { entries := List.replicate 16 { time := 1, slot := none, body := .reset 1 }
                         loss := none } }

/-- Memory answers OK to everything the reset line ends. -/
def fine : ResetAnswers := { inProgress := .ok, hostFirst := .ok, hostSecond := .ok }

/-- A stable wait that ends with nothing else happening in the STARTING that follows. -/
def quiet (intact : Bool) : WaitEnd :=
  { intact := intact, arriving := [], asserted := false, loss := none, held := fine }

/-- The state after a command. -/
def after (i : Instr) (s : State) : State :=
  match exec i s with
  | .next t => t
  | .fault _ => s
  | .refused _ => s

set_option maxRecDepth 100000 in
theorem test_block_valid : home.validate block = none := by decide +kernel
theorem atHandler_home : Safety.AtHandler home := ⟨by decide, by decide, by decide⟩
theorem atHandler_holding (e : Entry) : Safety.AtHandler (holding e) :=
  ⟨by rfl, by rfl, by rfl⟩
theorem atHandler_full : Safety.AtHandler full := ⟨by decide, by decide, by decide⟩
theorem notAboard_home (r : BitVec 64) : Safety.notAboard home r := by
  intro e he c hc
  have : e = .free := List.eq_of_mem_replicate he
  subst this
  cases hc
theorem aboardAt_holding {e : Entry} {c : Consignment} (hc : e.consignment = some c)
    (hr : c.reference = 5) : Safety.aboardAt (holding e) 5 0 e :=
  ⟨rfl, ⟨c, hc, hr⟩, fun _ h => absurd h (Nat.not_lt_zero _)⟩

/-! ## Steps -/

theorem test_load_staged : (after (.load 3 0 5 0x0100) home).account 0 =
    .staged cargo 2200 := by decide +kernel
theorem test_load_duplicate : (after (.load 3 0 5 0x0100) (holding (.staged cargo 1300))).receipt.latest =
    some (3, .refused .duplicate) := by decide +kernel
theorem test_move : (after (.move 3 0 5 0) (holding (.staged cargo 1300))).account 0 =
    .staged { cargo with compartment := 0 } 1300 := by decide +kernel
theorem test_withdraw : (after (.withdraw 3 0 5) (holding (.staged cargo 1300))).accounts =
    List.replicate 48 .free := by decide +kernel
theorem test_handover : (after (.handover 3 0 5 none) (holding (.tracked cargo tracking))).account 0 =
    .closing cargo (some { time := 900, recordSeq := some 9 }) Totals.zero := by decide +kernel
theorem test_handover_excursion :
    (after (.handover 3 0 5 (some 77)) (holding (.tracked cargo
      { tracking with excursion := some drift }))).queue.entries.length = 2 := by decide +kernel
theorem test_query : (after (.query 3 0 5) (holding (.tracked cargo tracking))).alert.view =
    some { seq := 3, slot := 0, entry := .tracked cargo tracking } := by decide +kernel
theorem test_query_repeated : (after (.query 3 0 5) { after (.query 3 0 5) (holding (.tracked cargo
    tracking)) with status := { home.status with demand := false } }).status.demand = true := by
  decide +kernel
theorem test_arrive : (after (.arrive 3 0 9 0) { home with stop := none }).stop = some 9 := by
  decide +kernel
theorem test_depart : (after (.depart 3 0 7 0) home).stop = none := by decide +kernel
theorem test_time : (after (.time 3 0 1 2) home).queue.entries =
    [{ time := 1000, slot := none, body := .time 1 2 }] := by decide +kernel

/-- Words of a READING of two compartments at 4.0 degrees, doors closed, units running. -/
def words : List Word := [pair 40 (-32768), 0x11, pair 40 (-32768), 0x11]

theorem test_reading_cadence :
    (after (.reading 3 0 ((1#16 ++ 2#16) :: words)) home).cadence.state = .confirm := by decide +kernel
theorem test_reading_opens :
    ((after (.reading 3 0 ((2#16 ++ 2#16) :: words))
      { holding (.staged cargo 1300) with
        cadence := { state := .confirm, deadline := some 1010, miss := 0, lastSeq := some 1
                     lostStanding := false } }).account 0).isTracked = true := by decide +kernel
theorem test_reading_breaks :
    (after (.reading 3 0 ((1#16 ++ 2#16) :: [pair 130 0, 0x11, pair 130 0, 0x11]))
      (holding (.tracked cargo tracking))).alert.latched.getLsbD 0 = true := by decide +kernel
theorem test_exported_head : (after (.exported 3 0 0 0) home).receipt.latest = some (3, .taken) := by
  decide +kernel

/-- `home` with 10 used words, so that an export may name position 4. -/
def logged : State :=
  { home with writer := { home.writer with
      log := some { head := 10, tail := 0, used := 10, nextSeq := 3 } } }

theorem test_exported_reads : (after (.exported 3 0 1 4) logged).arbiter.owner =
    some (.reader .exportCheck) := by decide +kernel
theorem test_export_check : (after (.exportCheckRead (.corrupt 0x5C000002))
    (after (.exported 3 0 1 4) logged)).writer.log =
      some { head := 10, tail := 4, used := 6, nextSeq := 3 } := by decide +kernel

/-- `home` with the header of a TIME report collected at second 998. -/
def collecting : State :=
  { home with assembler := { home.assembler with
      collecting := some { header := 0x00048002, kind := .time, words := [], deadline := 64000 } } }

theorem test_timed_out : (after .timedOut collecting).receipt.latest = some (4, .refused .timedOut) := by
  decide +kernel
theorem test_narrow_window : (after (.narrowWindowWrite 4 .two 0) collecting).receipt.latest =
    some (4, .refused .narrowWrite) := by decide +kernel

/-- A host access of four bytes. -/
def word (address : BitVec 24) (dir : Direction) (data : Word) : HostAccess :=
  { addr := address, width := .four, dir := dir, data := data }

/-- A host access of one byte. -/
def byte (address : BitVec 24) (dir : Direction) (data : Word) : HostAccess :=
  { addr := address, width := .one, dir := dir, data := data }

theorem test_host_read : (after (.passThroughRead .ok) (after (.hostAccess (byte 0x2003 .read 0))
    { home with mem := Mem.writeWord [] 0x2000 0x11223344 })).port.answers =
      [{ acc := byte 0x2003 .read 0, response := .readOk [0x44] }] := by decide +kernel
theorem test_host_write : (after (.passThroughWrite .ok) (after (.hostAccess
    (word 0x2000 .write 0x11223344)) home)).mem.readByte 0x2001 = 0x22 := by decide +kernel
theorem test_rmw : (after (.rmwWriteDone .ok) (after (.rmwReadDone .ok) (after (.hostAccess
    (byte 0x2001 .write 0xAABBCCDD)) home))).mem.readWord 0x2000 = 0x00BB0000 := by decide +kernel
theorem test_suppressed : (after (.suppressedWrite .fault) (after (.hostAccess
    (word 0x10000 .write 1)) home)).alert.counters.protectViolations = 1 := by decide +kernel
theorem test_window_write : ((after (.reportWindowWrite .ok) (after (.hostAccess
    (word 0x500 .write 0x00048002)) home)).assembler.collecting.map Collecting.deadline) =
      some 64128 := by decide +kernel
theorem test_load_trigger : (after .loadTrigger (after (.hostAccess (word 252 .write 1))
    home)).setup.lastResult = .inFlight := by decide +kernel
theorem test_acknowledge : (after (.acknowledge 0x00000021) { home with
    alert := { home.alert with latched := 0x23 } }).alert.latched = 2 := by decide +kernel
theorem test_clear_counters : (after (.clearCounters 1) { home with
    alert := { home.alert with counters := { Counters.zero with lostRecords := 9 } } }).alert.counters =
      Counters.zero := by decide +kernel
theorem test_take_entry : (after .writerTakeEntry (after (.time 3 0 1 2) home)).arbiter.lockout =
    some .writer := by decide +kernel
theorem test_space_found : (after .spaceFound { after (.time 3 0 1 2) home with
    writer := { home.writer with state := .waitingSpace } }).writer.state.code = 2 := by decide +kernel

/-- Six words of a TIME record written and read back. -/
def recorded : State :=
  after (.trailerReadBack .ok) ((List.replicate 6 (Instr.writerWordWrite .ok)).foldl
    (fun s i => after i s) (after .writerTakeEntry (after (.time 3 0 1 2) home)))

theorem test_record_committed : recorded.writer.log =
    some { head := 6, tail := 0, used := 6, nextSeq := 2 } := by decide +kernel
theorem test_record_through : recorded.receipt.recordedThrough = some 3 := by decide +kernel
theorem test_word_fault_halts : (after (.writerWordWrite .fault) (after .writerTakeEntry
    (after (.time 3 0 1 2) home))).writer.state = .halted := by decide +kernel
theorem test_status_rewrite : (after .statusRewrite { home with
    status := { home.status with demand := true } }).status.gen = 1 := by decide +kernel
theorem test_status_word : (after (.statusWordWrite .ok) (after .statusRewrite { home with
    status := { home.status with demand := true } })).mem.readWord 0x400 = 1 := by decide +kernel
theorem test_staging_deadline : (after (.stagingDeadline 0) (holding (.staged cargo 1000))).account 0 =
    .tracked { cargo with verdict := .unproven .staging } (openTracking 1000 600) := by decide +kernel
theorem test_gap_deadline : (after (.gapDeadline 0) (holding (.tracked cargo tracking))).account 0 =
    .tracked { cargo with verdict := .unproven .gap } { tracking with gapDeadline := none } := by
  decide +kernel

/-- `home` with both machines of compartment 0 at an expiry. -/
def expiring (m : Allowance) : State :=
  let c := { Compartment.cold false with doorMachine := m, defrostMachine := m }
  { home with compartments := home.compartments.set 0 c }

theorem test_grace_expiry : ((after (.graceExpiry 0 .door) (expiring (.grace 1000))).compartments.map
    Compartment.doorMachine) = [.expired, .idle] := by decide +kernel
theorem test_recovery_expiry : ((after (.recoveryExpiry 0 .defrost)
    (expiring (.recovery 1000))).compartments.map Compartment.defrostMachine) = [.idle, .idle] := by
  decide +kernel
/-- `home` LOCKED with its expected-arrival deadline reached and `n` misses. -/
def late (n : Nat) : State :=
  { home with cadence :=
      { state := .locked, deadline := some 1000, miss := n, lastSeq := some 1, lostStanding := false } }

theorem test_expected_arrival : (after .expectedArrivalDeadline (late 2)).cadence.state = .lost := by
  decide +kernel
theorem test_supply_loss : (after (.mainSupplyLoss false) home).supply.powerLoss =
    some { loss := 1000, ret := none } := by decide +kernel
theorem test_backup_loss : (after .backupSupplyLoss
    (after (.mainSupplyLoss false) home)).supply.domainHeld = false := by decide +kernel
theorem test_supply_return : (after .mainSupplyReturn
    (after (.mainSupplyLoss false) home)).supply.stableWait = true := by decide +kernel
theorem test_wait_cold : (after
    (.stableWaitComplete (quiet false)) (after .mainSupplyReturn
    (after (.mainSupplyLoss false) home))).supply.coldOutcome = some .lost := by decide +kernel
theorem test_reset_assert : (after (.resetAssert .ok .ok .ok) home).supply.part =
    .starting .resetLine := by decide +kernel
theorem test_reset_release : (after .resetRelease
    (after (.resetAssert .ok .ok .ok) home)).supply.part = .running := by decide +kernel
theorem test_chill_clock : (after .chillClockAdvance { home with
    clock := { seconds := 1000, sub := 63 } }).clock = { seconds := 1001, sub := 0 } := by decide +kernel

/-- The reset line at work over a HALTED writer, an acknowledge of WRITER_FAULT held. -/
def haltedReset : State :=
  let s := after (.resetAssert .ok .ok .ok)
    { home with
      writer := { home.writer with state := .halted }
      queue := { entries := [{ time := 1, slot := none, body := .reset 1 }], loss := none } }
  after (.hostAccess { addr := 0x4BC, width := .four, dir := .write, data := 8 }) s

theorem test_release_judges_first : haltedReset.writer.state = .halted ∧
    haltedReset.port.current.isSome = true ∧
    (after .resetRelease haltedReset).arbiter.owner = some .writer ∧
    (after .resetRelease haltedReset).port.current = none := by decide +kernel

/-- Reset, with 63 words of the cold-start load already read. -/
def loading : State :=
  { State.reset with setup := { State.reset.setup with load := some (block.words.take 63) } }

theorem test_setup_read :
    (after (.setupLoadRead { answer := .ok, held := fine }) State.reset).setup.load = some [0] := by
  decide +kernel
set_option maxRecDepth 100000 in
theorem test_setup_accepted :
    (after (.setupLoadRead { answer := .corrupt (block.word 63), held := fine }) loading).supply.part =
    .scanning := by decide +kernel
/-- The last read of a cold-start load, with a reset assertion and a read of address 0 held. -/
def heldBoth : State :=
  { loading with
    supply := { loading.supply with resetPin := true }
    port := { loading.port with
      current := some { acc := byte 0 .read 0, phase := .held } } }

set_option maxRecDepth 100000 in
theorem test_held_reset : (after (.setupLoadRead { answer := .fault, held := fine }) heldBoth).supply.part =
    .starting .resetLine := by decide +kernel
set_option maxRecDepth 100000 in
theorem test_held_access_judged :
    (after (.setupLoadRead { answer := .fault, held := fine }) heldBoth).port.answers =
    [{ acc := byte 0 .read 0, response := .readOk [0] }] := by decide +kernel
theorem test_setup_rejected :
    (after (.setupLoadRead { answer := .fault, held := fine }) loading).supply.part = .opened := by
  decide +kernel

/-- SCANNING, the first picture's word 0 at memory. -/
def picturing : State :=
  after (.setupLoadRead { answer := .corrupt (block.word 63), held := fine }) loading

set_option maxRecDepth 100000 in
theorem test_first_picture : picturing.status.gen = 1 ∧ picturing.scanner = none ∧
    picturing.arbiter.owner = some .status ∧
    picturing.status.rewrite = some (.writing (picturing.picture 1) 0) ∧
    bits ((picturing.picture 1).getD 1 0) 31 28 = 3 := by decide +kernel

/-- The last word of the first picture at memory. -/
def pictured : State :=
  { picturing with status := { picturing.status with
      rewrite := some (.writing (picturing.picture 1) 47) } }

set_option maxRecDepth 100000 in
theorem test_scan_starts : (after (.statusWordWrite .fault) pictured).scanner = some Scanner.start ∧
    (after (.statusWordWrite .ok) pictured).arbiter.owner = some (.reader .logScanner) := by
  decide +kernel

/-- The scan one position before the end of the log. -/
def scanning : State :=
  let s := after (.statusWordWrite .ok) pictured
  { s with scanner := s.scanner.map (fun c => { c with position := 4095 }) }

set_option maxRecDepth 100000 in
theorem test_scan_ends : (after (.logScanRead .fault) scanning).supply.part = .running := by
  decide +kernel
set_option maxRecDepth 100000 in
theorem test_scan_candidate : ((after (.logScanRead (.corrupt 0x5C000000)) scanning).scanner.map
    Scanner.words) = some [0x5C000000] := by decide +kernel

/-! ## A state and operands that meet the hypotheses of each statement -/

theorem inv_reset : Safety.Inv State.reset := by
  refine ⟨⟨by decide, by decide, by decide, ?_, by decide, by decide, by decide⟩, rfl, fun _ => rfl⟩
  exact ⟨by decide, by decide, by decide, by decide, by decide⟩

theorem test_witness_StepRunsFrontCommand :
    (∃ c rest, { home with pending := [.timedOut] }.pending = c :: rest) ∧ home.pending = [] :=
  ⟨⟨_, _, rfl⟩, rfl⟩

theorem test_witness_InvariantKept :
    Safety.Inv State.reset ∧ ∃ t, step State.reset = .next t := ⟨inv_reset, _, rfl⟩

theorem test_witness_VerdictOnlyRises :
    ∃ t f d, exec (.gapDeadline 0) (holding (.tracked cargo tracking)) = .next t ∧
      t.accounts[0]? = some f ∧ f.consignment = some d ∧ d.verdict = .unproven .gap :=
  ⟨_, _, _, rfl, rfl, rfl, rfl⟩

theorem test_witness_EndOfOperation :
    home.port.current = none ∧ home.port.behind = [] ∧
      (after (.hostAccess (byte 9 .read 0)) home).port.current =
        some { acc := byte 9 .read 0, phase := .atMemory .read } ∧
      (after (.hostAccess (byte 9 .read 0)) State.reset).port.current =
        some { acc := byte 9 .read 0, phase := .held } ∧
      State.reset.supply.part = .starting .coldLoad ∧ home.supply.part = .running := by decide +kernel

theorem test_witness_LoadStages :
    Safety.AtHandler home ∧ bits 0x0107 31 16 = 0 ∧ bits 0x0100 15 8 < home.cfg.count ∧
      bits 0x0107 7 0 ≤ 7 ∧ (home.cfg.band (bits 0x0100 7 0)).enabled = true ∧ home.stop ≠ none ∧
      Safety.notAboard home 5 ∧ Safety.lowestFreeAt home 0 ∧ home.queue.entries.length < 16 :=
  ⟨atHandler_home, by decide, by decide, by decide, by decide, by decide, notAboard_home 5,
    lowestFreeAt_of_lowestFree (by decide), by decide⟩

theorem test_witness_ManifestRefusals_load :
    Safety.AtHandler full ∧ ¬bits 0x0200 15 8 < full.cfg.count ∧
      (full.cfg.band 1).enabled = false ∧ ¬Safety.notAboard (holding (.staged cargo 1300)) 5 ∧
      Entry.free ∈ full.accounts ∧ 16 ≤ full.queue.entries.length ∧
      Entry.free ∉ ({ home with accounts := List.replicate 48 (.staged cargo 1) } : State).accounts :=
  ⟨atHandler_full, by decide, by decide,
    fun h => h (.staged cargo 1300) (List.mem_cons_self ..) cargo rfl rfl, by decide, by decide,
    by decide⟩

theorem test_witness_ManifestRefusals_others :
    Safety.AtHandler (holding (.staged cargo 1300)) ∧ bits 0x0100 31 16 = 0 ∧ bits 0x0100 7 0 = 0 ∧
      bits 0x0300 15 8 ≤ 3 ∧ ¬bits 0x0400 15 8 ≤ 3 ∧ home.cfg.count ≤ bits 0x0200 15 8 ∧
      cargo.compartment = bits 0x0100 15 8 ∧ cargo.compartment ≠ bits 0 15 8 ∧
      bits 0 15 8 < home.cfg.count ∧ home.stop ≠ none ∧ tracking.excursion = none ∧
      Safety.aboardAt (holding (.staged cargo 1300)) 5 0 (.staged cargo 1300) ∧
      Safety.aboardAt (holding (.closing cargo none Totals.zero)) 5 0 (.closing cargo none Totals.zero) ∧
      Safety.aboardAt (holding (.tracked cargo { tracking with excursion := some drift })) 5 0
        (.tracked cargo { tracking with excursion := some drift }) :=
  ⟨atHandler_holding _, by decide, by decide, by decide, by decide, by decide, by decide, by decide,
    by decide, by decide, by decide, aboardAt_holding rfl rfl, aboardAt_holding rfl rfl,
    aboardAt_holding rfl rfl⟩

/-- `holding` with a full queue. -/
def crowded (e : Entry) : State := { holding e with queue := full.queue }

theorem test_witness_ManifestRefusals_last :
    Safety.AtHandler (crowded (.tracked cargo tracking)) ∧
      Safety.aboardAt (crowded (.tracked cargo tracking)) 5 0 (.tracked cargo tracking) ∧
      16 ≤ (crowded (.tracked cargo tracking)).queue.entries.length ∧
      Safety.AtHandler { holding (.staged cargo 1300) with stop := none } ∧
      Safety.aboardAt { holding (.staged cargo 1300) with stop := none } 5 0 (.staged cargo 1300) :=
  ⟨⟨rfl, rfl, rfl⟩, aboardAt_holding rfl rfl, by decide, ⟨rfl, rfl, rfl⟩, aboardAt_holding rfl rfl⟩

theorem test_witness_MoveAndWithdraw :
    Safety.AtHandler (holding (.staged cargo 1300)) ∧
      Safety.aboardAt (holding (.staged cargo 1300)) 5 0 (.staged cargo 1300) ∧
      Safety.aboardAt (holding (.tracked cargo tracking)) 5 0 (.tracked cargo tracking) ∧
      bits 0 15 8 < (holding (.staged cargo 1300)).cfg.count ∧ cargo.compartment ≠ bits 0 15 8 ∧
      (holding (.staged cargo 1300)).queue.entries.length < 16 :=
  ⟨atHandler_holding _, aboardAt_holding rfl rfl, aboardAt_holding rfl rfl, by decide, by decide,
    by decide⟩

theorem test_witness_HandoverCloses :
    Safety.AtHandler (holding (.tracked cargo { tracking with excursion := some drift })) ∧
      Safety.aboardAt (holding (.tracked cargo { tracking with excursion := some drift })) 5 0
        (.tracked cargo { tracking with excursion := some drift }) ∧ home.stop ≠ none ∧
      Safety.aboardAt (holding (.staged cargo 1300)) 5 0 (.staged cargo 1300) ∧
      home.queue.entries.length + 2 ≤ 16 :=
  ⟨atHandler_holding _, aboardAt_holding rfl rfl, by decide, aboardAt_holding rfl rfl, by decide⟩

theorem test_witness_QueryReports :
    Safety.AtHandler (holding (.closing cargo none Totals.zero)) ∧
      Safety.aboardAt (holding (.closing cargo none Totals.zero)) 5 0 (.closing cargo none Totals.zero) ∧
      Safety.notAboard home 5 :=
  ⟨atHandler_holding _, aboardAt_holding rfl rfl, notAboard_home 5⟩

theorem test_witness_ProduceQueuesOrLoses :
    home.queue.entries.length < 16 ∧ 16 ≤ full.queue.entries.length ∧
      (crowded (.tracked cargo tracking)).accounts[0]? = some (.tracked cargo tracking) ∧
      16 ≤ (crowded (.tracked cargo tracking)).queue.entries.length := by decide

theorem test_witness_StandingConditionsJudged :
    home.setup.inForce = some block ∧
      home.writer.log = some { head := 0, tail := 0, used := 0, nextSeq := 1 } := ⟨rfl, rfl⟩

theorem test_witness_AccountDeadlines :
    (holding (.staged cargo 1000)).accounts[0]? = some (.staged cargo 1000) ∧ cargo.verdict = .clean ∧
      1000 ≤ (holding (.staged cargo 1000)).clock.seconds ∧ home.supply.part ≠ .retain ∧
      (holding (.tracked cargo tracking)).accounts[0]? = some (.tracked cargo tracking) ∧
      tracking.gapDeadline = some 1000 := by decide

theorem test_witness_AllowanceMachines :
    (expiring (.grace 1000)).compartments[0]? =
        some { Compartment.cold false with doorMachine := .grace 1000, defrostMachine := .grace 1000 } ∧
      1000 ≤ (expiring (.grace 1000)).clock.seconds ∧
      (expiring (.recovery 1000)).supply.part ≠ .retain := by decide

/-- Compartment 0 of `home`, one absent probe short of doubt. -/
def doubting : State :=
  { home with compartments := home.compartments.set 0 { Compartment.cold false with absenceRun := 2 } }

theorem test_witness_CompartmentUpdated :
    let c : Compartment := { Compartment.cold false with absenceRun := 2 }
    let d := c.update doubting.cfg true 1000 (pair (-32768) 0) 0x11
    doubting.compartments[0]? = some c ∧ doubting.compartments.length = 2 ∧
      doubtChange doubting.cfg.doubtCount c.doubt c.runs d.runs =
        some { raised := true, cause := .absent } ∧
      doubtChange 3 (some .absent) { c.runs with trust := 2 } { c.runs with trust := 3 } =
        some { raised := false, cause := .absent } := by decide +kernel

theorem test_witness_StopAndTimeReports :
    Safety.AtHandler home ∧ home.stop = some 7 ∧ home.queue.entries.length < 16 ∧
      Safety.AtHandler full ∧ 16 ≤ full.queue.entries.length ∧
      Safety.AtHandler { home with stop := none } :=
  ⟨atHandler_home, by decide, by decide, atHandler_full, by decide, ⟨by decide, by decide, by decide⟩⟩

theorem test_witness_CadenceSteps :
    (late 2).cadence.deadline = some 1000 ∧ 1000 ≤ (late 2).clock.seconds ∧
      (late 2).supply.part ≠ .retain ∧ (late 2).cadence.state = .locked ∧
      (late 2).cadence.miss = 2 ∧ (late 1).cadence.miss < 2 ∧
      ({ late 0 with cadence :=
          { (late 0).cadence with state := .confirm, lostStanding := true } } : State).cadence.deadline =
        some 1000 := by decide

theorem test_witness_ReadingTakenOrRefused :
    Safety.AtHandler home ∧ 1 ≤ home.cfg.count ∧ home.cfg.count ≤ 4 ∧
      words.length = 2 * home.cfg.count ∧
      (∀ k < home.cfg.count, bits (words.getD (2 * k + 1) 0) 31 8 = 0 ∧
        bits (words.getD (2 * k + 1) 0) 7 4 ≤ 3 ∧ bits (words.getD (2 * k + 1) 0) 3 0 ≤ 2) ∧
      (late 0).cadence.lastSeq = some 1 ∧ 1 ≤ ((2 : Half) - 1).toNat ∧
      32768 ≤ ((0x8001 : Half) - 1).toNat ∧ bits (1#16 ++ 2#16) 2 0 = home.cfg.count ∧
      bits (1#16 ++ 2#16) 15 3 = 0 ∧ bits (1#16 ++ 0#16) 2 0 = 0 ∧ bits (1#16 ++ 5#16) 2 0 = 5 ∧
      2 < bits 0x13 3 0 ∧ 3 < bits 0x41 7 4 :=
  ⟨atHandler_home, by decide, by decide, by decide, by decide, by decide, by decide, by decide,
    by decide, by decide, by decide, by decide, by decide, by decide⟩

theorem test_witness_ReadingFrame :
    Safety.AtHandler home ∧ ∃ t, exec (.reading 3 0 ((1#16 ++ 2#16) :: words)) home = .next t :=
  ⟨atHandler_home, _, rfl⟩

/-- A compartment present and apart in time, for the search. -/
def present : Compartment := { Compartment.cold false with effective := some { warm := 40, cold := 40 } }

theorem test_witness_MissedTimeRecorded :
    ({ home with compartments := [present] } : State).compartments[0]? = some present ∧
      present.effective ≠ none ∧ home.cfg.period + home.cfg.window < home.clock.seconds - 929 ∧
      home.clock.seconds - 930 ≤ home.cfg.period + home.cfg.window := by decide

theorem test_witness_TurnOfSlot :
    (holding (.tracked cargo tracking)).accounts[0]? = some (.tracked cargo tracking) ∧
      (holding (.staged cargo 1300)).accounts[0]? = some (.staged cargo 1300) ∧
      home.compartments[cargo.compartment]? = some (Compartment.cold false) ∧
      home.accounts[0]? = some .free ∧ (holding (.closing cargo none Totals.zero)).accounts[0]? =
        some (.closing cargo none Totals.zero) := by decide

theorem test_witness_NotReadyAndWaiting :
    State.reset.assembler.handling = none ∧ State.reset.supply.part ≠ .running ∧
      (after (.exported 3 0 1 4) logged).assembler.handling ≠ none ∧
      (after (.exported 3 0 1 4) logged).assembler.waiting = none ∧
      home.supply.part = .running ∧ State.reset.supply.part = .starting .coldLoad ∧
      (let s := after (.time 4 0 1 2) (after (.exported 3 0 1 4) logged)
       s.assembler.handling ≠ none ∧ s.assembler.waiting ≠ none) := by decide +kernel

theorem test_witness_ExportedJudged :
    Safety.AtHandler logged ∧
      logged.writer.log = some { head := 10, tail := 0, used := 10, nextSeq := 3 } ∧
      (10 : Word).toNat = 10 ∧ (2 : Word) + 1 = 3 ∧ (9 : Word).toNat ≠ 10 ∧
      (9 : Word).toNat < logged.cfg.logSize ∧ (9 + 4096 - 0) % 4096 < 10 ∧
      ¬(11 + 4096 - 0) % 4096 < 10 :=
  ⟨⟨by decide, by decide, by decide⟩, by decide, by decide, by decide, by decide, by decide, by decide,
    by decide⟩

theorem test_witness_ExportCheckDecides :
    let s := after (.exported 3 0 1 4) logged
    s.arbiter.owner = some (.reader .exportCheck) ∧
      s.assembler.handling = some { seq := 3, kind := .exported, rsv := 0, body := [1, 4] } ∧
      s.memRead (.corrupt 0x5C000002) 0 = some 0x5C000002 ∧ bits 0x5C000002 31 24 = 0x5C ∧
      (0x5C000002 : Word).extractLsb' 0 15 = ((1 : Word) + 1).extractLsb' 0 15 := by decide +kernel

theorem test_witness_AssemblerFeeds :
    kindOfCode (bits 0x00048002 15 12) = some .time ∧ lengthInRange .time (bits 0x00048002 4 0) = true ∧
      home.clock.seconds < 4294967293 ∧ lengthInRange .time (bits 0x00048003 4 0) = false ∧
      kindOfCode (bits 0x0004A002 15 12) = none ∧
      collecting.assembler.collecting =
        some { header := 0x00048002, kind := .time, words := [], deadline := 64000 } := by decide

theorem test_witness_WindowWriteFeeds :
    Safety.AtMemory (after (.hostAccess (word 0x500 .write 0x00048002)) home)
      (word 0x500 .write 0x00048002) (.windowWrite 0) := ⟨by decide +kernel, by decide +kernel⟩

theorem test_witness_AssemblyTimesOut :
    collecting.assembler.collecting =
        some { header := 0x00048002, kind := .time, words := [], deadline := 64000 } ∧
      collecting.supply.part ≠ .retain ∧
      64000 ≤ collecting.clock.seconds * 64 + collecting.clock.sub := by decide

theorem test_witness_NarrowWindowRefused :
    collecting.setup.inForce = some block ∧ collecting.port.current = none ∧
      collecting.port.behind = [] ∧ collecting.supply.part = .running ∧
      collecting.assembler.waiting = none ∧ block.regionOk = true ∧ block.capacity ≤ 16 := by decide

theorem test_witness_WordStored :
    (Mem.writeWord [] 252 0xFF).wf = true ∧ (Mem.writeWord [] 0 1).readWord 0 = 1 := by decide

theorem test_witness_HostAccessTests :
    (after (.mainSupplyLoss false) home).supply.part = .retain ∧
      State.reset.port.current = none ∧ State.reset.supply.part = .starting .coldLoad ∧
      home.supply.part = .running ∧ home.port.current = none ∧ home.port.behind = [] ∧
      (word 0x2001 .read 0).addr.toNat % 4 ≠ 0 ∧ block.capacity * 1048576 ≤ (0x400000 : Nat) ∧
      block.windowBase ≤ 0x57C ∧ 0x57C < block.windowBase + 128 := by decide +kernel

theorem test_witness_HostWriteByRegion :
    home.setup.inForce = some block ∧ home.assembler.waiting = none ∧ block.regionOk = true ∧
      (let s := after (.time 4 0 1 2) (after (.exported 3 0 1 4) logged)
       s.assembler.waiting ≠ none ∧ s.setup.inForce = some block ∧ s.port.current = none ∧
         (after (.hostAccess (word 0x2000 .write 0)) s).port.current =
           some { acc := word 0x2000 .write 0, phase := .atMemory .write }) ∧
      (word 0x3FFFFC .write 0).addr.toNat < block.capacity * 1048576 ∧ home.setup.load = none ∧
      (∀ e ∈ home.accounts, e = .free) ∧ block.statusBase + 192 ≤ 0x4C0 ∧
      0x13FFC < block.logBase + 4 * block.logSize ∧
      ({ home with setup := { home.setup with inForce := none } } : State).setup.inForce = none := by
  decide

theorem test_witness_HostAccessCompletes :
    Safety.AtMemory (after (.hostAccess (byte 0x2003 .read 0)) home) (byte 0x2003 .read 0) .read ∧
      Safety.AtMemory (after (.hostAccess (word 252 .write 1)) home) (word 252 .write 1) .write ∧
      ∀ e ∈ (after (.hostAccess (word 252 .write 1)) home).accounts, e = .free :=
  ⟨⟨by decide +kernel, by decide +kernel⟩, ⟨by decide +kernel, by decide +kernel⟩, by decide +kernel⟩

theorem test_witness_ReadModifyWrite :
    Safety.AtMemory (after (.hostAccess (byte 0x2001 .write 1)) home) (byte 0x2001 .write 1) .rmwRead ∧
      Safety.AtMemory (after (.rmwReadDone .ok) (after (.hostAccess (byte 0x2001 .write 0xAABBCCDD))
        home)) (byte 0x2001 .write 0xAABBCCDD) (.rmwWrite 0x00BB0000) :=
  ⟨⟨by decide +kernel, by decide +kernel⟩, ⟨by decide +kernel, by decide +kernel⟩⟩

theorem test_witness_SuppressedWriteRefused :
    Safety.AtMemory (after (.hostAccess (word 0x10000 .write 1)) home) (word 0x10000 .write 1)
      (.suppressed .logProtected) := ⟨by decide +kernel, by decide +kernel⟩

theorem test_witness_ArbiterGrants :
    ({ home.arbiter with upstream := true, fairness := 7 } : Arbiter).fairness < 8 ∧
      home.arbiter.owner = none ∧ home.arbiter.lockout = none ∧
      8 ≤ ({ home.arbiter with upstream := true, writer := true, fairness := 8 } : Arbiter).fairness ∧
      State.reset.arbiter.owner ≠ none := by decide

theorem test_witness_AcknowledgeTaken :
    home.setup.inForce = some block ∧ home.port.current = none ∧ home.port.behind = [] ∧
      home.supply.part = .running ∧ block.regionOk = true ∧ block.capacity ≤ 16 := by decide

theorem test_witness_WriterTakesEntry :
    let s := after (.time 3 0 1 2) home
    s.supply.part = .running ∧ s.queue.entries.length = 1 ∧ s.writer.state = .idle ∧
      s.writer.log = some { head := 0, tail := 0, used := 0, nextSeq := 1 } ∧
      6 ≤ s.cfg.logSize - 4090 ∧ ¬6 ≤ s.cfg.logSize - 4091 := by decide +kernel

theorem test_witness_RecordWordWritten :
    let s := after .writerTakeEntry (after (.time 3 0 1 2) home)
    s.arbiter.owner = some .writer ∧ (∃ r c, s.writer.state = .writing r c 0) ∧
      s.writer.log = some { head := 0, tail := 0, used := 0, nextSeq := 1 } :=
  ⟨by decide +kernel, ⟨_, _, rfl⟩, by decide +kernel⟩

/-- The record written, its trailer not yet read back. -/
def verifying : State :=
  (List.replicate 6 (Instr.writerWordWrite .ok)).foldl (fun s i => after i s)
    (after .writerTakeEntry (after (.time 3 0 1 2) home))

theorem test_witness_ReadBackDecides :
    verifying.arbiter.owner = some .writer ∧ verifying.writer.state.code = 3 ∧
      verifying.queue.entries.length = 1 ∧
      verifying.memRead (.corrupt 1) 0 = some 1 ∧ verifying.memRead .fault 0 = none := by decide +kernel

theorem test_witness_SetupValidated : block.words.length = 64 := by decide

theorem test_witness_SetupLoadReads :
    loading.arbiter.owner = some (.reader .setupLoader) ∧
      loading.setup.load = some (block.words.take 63) ∧ (block.words.take 63).length = 63 ∧
      State.reset.setup.load = some [] ∧ heldBoth.supply.resetPin = true ∧
      heldBoth.supply.part = .starting .coldLoad := ⟨rfl, rfl, by decide, rfl, rfl, rfl⟩

theorem test_witness_SetupDecided :
    home.supply.part = .running ∧ home.setup.inForce = some block ∧
      State.reset.supply.part ≠ .running := by decide

theorem test_witness_StatusRewritten :
    let s : State := { home with status := { home.status with demand := true } }
    s.setup.inForce ≠ none ∧ s.supply.part = .running ∧ s.status.rewrite = none ∧
      (after .statusRewrite s).arbiter.owner = some .status ∧
      (∃ p, (after .statusRewrite s).status.rewrite = some (.writing p 0)) :=
  ⟨by decide, by decide, by decide, by decide +kernel, _, rfl⟩

set_option maxRecDepth 100000 in
theorem test_witness_StatusRewritten_scanning :
    pictured.arbiter.owner = some .status ∧ pictured.supply.part = .scanning ∧
      pictured.scanner = none ∧ pictured.status.demand = false ∧
      pictured.status.rewrite = some (.writing (picturing.picture 1) 47) := by decide +kernel

theorem test_witness_StatusPicture :
    (after (.time 3 0 1 2) home).receipt.latest = some (3, .taken) ∧ home.receipt.latest = none ∧
      recorded.receipt.recordedThrough = some 3 ∧
      (after (.query 3 0 5) (holding (.tracked cargo tracking))).alert.view =
        some { seq := 3, slot := 0, entry := .tracked cargo tracking } ∧
      (after (.query 3 0 5) (holding (.closing cargo none Totals.zero))).alert.view =
        some { seq := 3, slot := 0, entry := .closing cargo none Totals.zero } := by decide +kernel

theorem test_witness_ScanJudgesWords :
    bits 0x5C0A0000 31 24 = 0x5C ∧ bits 0x5C0A0000 19 15 = 20 ∧ ¬bits 0x5C0A8000 19 15 ≤ 20 ∧
      Scanner.start.words = [] := by decide

set_option maxRecDepth 100000 in
theorem test_witness_LogScanReadsAndEnds :
    scanning.arbiter.owner = some (.reader .logScanner) ∧ scanning.scanner ≠ none ∧
      scanning.queue.entries = [] ∧ scanning.setup.heldRecord = true ∧
      scanning.supply.coldOutcome = some .none := by decide +kernel

/-- Main supply lost, the backup supply holding. -/
def retained : State := after (.mainSupplyLoss false) home

theorem test_witness_SupplyLossAndReturn :
    home.supply.mainPresent = true ∧ retained.supply.mainPresent = false ∧
      retained.supply.domainHeld = true ∧ retained.supply.part = .retain := by decide +kernel

/-- The end of the stable wait over a HALTED writer, an entry queued and the log too full for it. -/
def haltedWait : State :=
  after .mainSupplyReturn (after (.mainSupplyLoss false)
    { home with
      writer := { home.writer with
        state := .halted, log := some { head := 4095, tail := 0, used := 4095, nextSeq := 1 } } })

/-- An acknowledge of every cause at word 47. -/
def acknowledgeAll : HostAccess := { addr := 0x4BC, width := .four, dir := .write, data := 0x1FFF }

/-- The whole power return from `haltedWait` (the check of R199 is opaque, so the judgement is left out). -/
def comesBack (w : WaitEnd) : State :=
  (((haltedWait.startFromWait w).returnOrLose w.loss).settlePorts haltedWait).heldReset w.held

theorem test_return_judges_held :
    let s := comesBack { quiet true with arriving := [acknowledgeAll, byte 9 .read 0] }
    haltedWait.writer.state = .halted ∧ s.supply.part = .running ∧ s.writer.state = .waitingSpace ∧
      s.alert.latched = Cause.logFull.bit ∧
      s.port.current = some { acc := byte 9 .read 0, phase := .atMemory .read } ∧
      s.port.behind = [] := by decide +kernel

theorem test_return_asserted :
    (comesBack { quiet true with asserted := true }).supply.part = .starting .resetLine := by
  decide +kernel

theorem test_return_drops_held :
    (comesBack { quiet true with
      arriving := [byte 9 .read 0]
      loss := some { point := .noted, backupRestored := false } }).port =
        { current := none, behind := [], answers := haltedWait.port.answers } := by decide +kernel

theorem test_return_interrupted :
    let t := retained.brokenReturn { point := .deadlines 0, backupRestored := false }
    t.supply.part = .retain ∧ t.supply.powerLoss = some { loss := 1000, ret := none } ∧
      t.queue.entries = [{ time := 1000, slot := none, body := .power 1000 1000 }] := by decide +kernel

theorem test_witness_StableWaitJudged :
    let s := after .mainSupplyReturn retained
    s.supply.part = .retain ∧ s.supply.stableWait = true ∧ s.supply.domainHeld = true ∧
      s.supply.retainedValid = true ∧ s.supply.retainedCheck = s.retainedCheckNow ∧
      s.supply.powerLoss ≠ none ∧ s.supply.resetPin = false ∧
      (after (.resetAssert .ok .ok .ok) s).supply.resetPin = true ∧
      (after (.resetAssert .ok .ok .ok) s).supply.retainedCheck =
        (after (.resetAssert .ok .ok .ok) s).retainedCheckNow :=
  ⟨by decide +kernel, by decide +kernel, by decide +kernel, by decide +kernel, rfl, by decide +kernel,
    by decide +kernel, by decide +kernel, rfl⟩

theorem test_witness_DeadlinesNotSkipped :
    State.reset.accounts.length = 48 ∧ Safety.Inv State.reset ∧ State.reset.supply.domainHeld = true ∧
      Safety.Inv { State.reset with clock := { seconds := 0, sub := 63 } } := by
  refine ⟨by decide, inv_reset, by decide, ⟨?_, rfl, fun _ => rfl⟩⟩
  exact ⟨by decide, by decide, by decide, inv_reset.bounds.counters, by decide, by decide, by decide⟩

theorem test_witness_DeadlinesNotSkipped_fallen :
    let s : State := { holding (.staged cargo 900) with
      accounts := home.accounts.set 0 (.staged cargo 900) |>.set 1 (.tracked cargo tracking) }
    s.accounts[0]? = some (.staged cargo 900) ∧ s.accounts[1]? = some (.tracked cargo tracking) ∧
      Entry.deadline (.staged cargo 900) = some 900 ∧ 900 ≤ s.clock.seconds ∧
      Entry.deadline (.tracked cargo tracking) = some 1000 ∧ 1000 ≤ s.clock.seconds ∧
      s.supply.part ≠ .retain := by decide

theorem test_witness_ResetAsserted :
    home.supply.resetPin = false ∧ home.supply.part = .running ∧ home.arbiter.owner = none ∧
      (∀ a job, home.port.current ≠ some { acc := a, phase := .atMemory job }) ∧
      State.reset.supply.part = .starting .coldLoad ∧
      State.reset.arbiter.owner = some (.reader .setupLoader) :=
  ⟨by decide, by decide, by decide, (fun _ _ h => nomatch h), by decide, by decide⟩

theorem test_witness_ResetAsserted_owners :
    let rewriting := after .statusRewrite { home with status := { home.status with demand := true } }
    let writing := after .writerTakeEntry (after (.time 3 0 1 2) home)
    rewriting.arbiter.owner = some .status ∧ (∃ p, rewriting.status.rewrite = some (.writing p 0)) ∧
      writing.arbiter.owner = some .writer ∧ (∃ r c, writing.writer.state = .writing r c 0) ∧
      verifying.arbiter.owner = some .writer ∧ (∃ r c, verifying.writer.state = .verifying r c) ∧
      (after (.hostAccess (byte 9 .read 0)) home).arbiter.owner = some .upstream :=
  ⟨by decide +kernel, ⟨_, rfl⟩, by decide +kernel, ⟨_, _, rfl⟩, by decide +kernel, ⟨_, _, rfl⟩,
    by decide +kernel⟩

theorem test_reset_completes_rmw : (after (.resetAssert .ok .ok .ok) (after (.hostAccess
    (byte 0x2001 .write 0xAABBCCDD)) home)).mem.readWord 0x2000 = 0x00BB0000 := by decide +kernel

theorem test_witness_ResetReleased :
    let s := after (.resetAssert .ok .ok .ok) home
    s.supply.resetPin = true ∧ s.supply.part = .starting .resetLine ∧ s.supply.retainedValid = true ∧
      s.supply.resetTime = some 1000 := by decide +kernel

theorem test_witness_ResetReleased_rerun :
    let s := after (.resetAssert .ok .ok .ok) { home with supply := { home.supply with
      retainedValid := false } }
    s.supply.resetPin = true ∧ s.supply.part = .starting .resetLine ∧ s.supply.retainedValid = false ∧
      (after .resetRelease s).compartments = [] ∧
      (after .resetRelease s).arbiter.owner = some (.reader .setupLoader) := by decide +kernel

theorem test_witness_ChillClockAdvances_fallen :
    let s : State := { holding (.staged cargo 900) with
      supply := { home.supply with part := .retain }, clock := { seconds := 1000, sub := 63 } }
    s.supply.domainHeld = true ∧ s.accounts[0]? = some (.staged cargo 900) ∧
      (after .chillClockAdvance s).clock = { seconds := 1001, sub := 0 } ∧
      (after .chillClockAdvance s).accounts = s.accounts := by decide +kernel

theorem test_witness_ChillClockAdvances :
    home.supply.domainHeld = true ∧ home.assembler.collecting = none ∧ home.cadence.deadline = none ∧
      (∀ e ∈ home.accounts, e.deadline = none) ∧
      (∀ c ∈ home.compartments, c.doorMachine = .idle ∧ c.defrostMachine = .idle) ∧
      home.clock.sub < 63 ∧ home.clock.seconds < 4294967295 := by decide

end Sys2Proof.Tests
end

section
/-! What one command can do: every command idles, or performs one operation and brings it to its end
(R179, R186, R198). Invariants are proved by cases on this, never by unfolding `exec` again. -/

namespace Sys2Proof.Machine

/-- One operation of the part on `s`, before its end: what the rows of the table perform. -/
inductive Performs (s : State) : State → Prop where
  | arrive (a : HostAccess) :
      Performs s { s with port := { s.port with behind := s.port.behind ++ [a] } }
  | job (a : HostAccess) (j : HostJob) (m : MemAnswer) : Performs s (s.freePort.finishJob a j m)
  | report (r : Report) : Performs s (s.complete r)
  | exportRead (r : Report) (w : Option Word) :
      Performs s (s.freePort.judgeExport r w).releaseWaiting
  | timeOut : Performs s s.expireAssembly
  | loadRead (copy : List Word) (w : Option Word) : Performs s (s.freePort.loadWord copy w)
  | scanRead (c : Scanner) (w : Option Word) : Performs s (s.freePort.scanWord c w)
  | takeEntry : Performs s s.takeEntry
  | findSpace : Performs s s.findSpace
  | recordWrite (l : LogState) (ws : List Word) (chain : Half) (n : Nat) (m : MemAnswer) :
      Performs s (s.freePort.wordWritten l ws chain n m)
  | readBack (l : LogState) (ws : List Word) (chain : Half) (m : MemAnswer) :
      Performs s (s.freePort.readBack l ws chain m)
  | beginRewrite : Performs s s.beginRewrite
  | statusWrite (picture : List Word) (n : Nat) (m : MemAnswer) :
      Performs s (s.freePort.statusWritten picture n m)
  | staging (slot : Nat) : Performs s (s.expireStaging slot)
  | gap (slot : Nat) : Performs s (s.expireGap slot)
  | machine (k : Nat) (n : MachineName) (f : Allowance → Allowance) : Performs s (s.mapMachine k n f)
  | cadence : Performs s s.expireCadence
  | loseMain (b : Bool) : Performs s (s.loseMain b)
  | loseBackup : Performs s s.loseBackup
  | mainReturn :
      Performs s { s with supply := { s.supply with mainPresent := true, stableWait := true } }
  | assertReset (r : ResetAnswers) : Performs s (s.assertReset r)
  | releaseReset : Performs s s.releaseReset
  | advance : Performs s s.advanceClock

/-- How a command ends: idle (log 6), or with one operation brought to its end. A held reset assertion can
act behind the end of a setup load or of a power return (R203, R205). -/
inductive Ends (s : State) : State → Prop where
  | idle : Ends s s
  | settled {u : State} (h : Performs s u) : Ends s (u.settle s)
  | ports {u : State} (h : Performs s u) : Ends s (u.settlePorts s)
  | load (copy : List Word) (w : Option Word) (r : ResetAnswers) :
      Ends s (((s.freePort.loadWord copy w).settlePorts s).heldReset r)
  | wait (w : WaitEnd) (r : ResetAnswers) : Ends s (((s.completeWait w).settlePorts s).heldReset r)

theorem Ends.hostAccess (s : State) (a : HostAccess) : Ends s (s.hostAccess a) := by
  unfold State.hostAccess
  split
  · exact .idle
  · exact .ports (.arrive a)

theorem Ends.reportArrives (s : State) (r : Report) : Ends s (s.reportArrives r) := by
  unfold State.reportArrives
  split
  · exact .settled (.report r)
  · exact .idle

/-- The completions of a host access at memory (R147 to R151, R93, R166). -/
theorem Ends.job {s : State} (a : HostAccess) (j : HostJob) (m : MemAnswer) :
    Ends s ((s.freePort.finishJob a j m).settlePorts s) := .ports (.job a j m)

/-- Whatever the command and the state, the command ends in one of these ways. -/
theorem exec_ends (i : Instr) (s : State) : ∃ t, exec i s = .next t ∧ Ends s t := by
  cases i with
  | hostAccess acc => exact ⟨_, rfl, .hostAccess s acc⟩
  | passThroughRead m =>
    dsimp only [exec, execPassThroughRead]
    split
    · exact ⟨_, rfl, .job _ .read m⟩
    · exact ⟨_, rfl, .idle⟩
  | passThroughWrite m =>
    dsimp only [exec, execPassThroughWrite]
    split
    · exact ⟨_, rfl, .job _ .write m⟩
    · exact ⟨_, rfl, .idle⟩
  | rmwReadDone m =>
    dsimp only [exec, execRmwReadDone]
    split
    · exact ⟨_, rfl, .job _ .rmwRead m⟩
    · exact ⟨_, rfl, .idle⟩
  | rmwWriteDone m =>
    dsimp only [exec, execRmwWriteDone]
    split
    · exact ⟨_, rfl, .job _ (.rmwWrite _) m⟩
    · exact ⟨_, rfl, .idle⟩
  | suppressedWrite m =>
    dsimp only [exec, execSuppressedWrite]
    split
    · exact ⟨_, rfl, .job _ (.suppressed _) m⟩
    · exact ⟨_, rfl, .idle⟩
  | reportWindowWrite m =>
    dsimp only [exec, execReportWindowWrite]
    split
    · exact ⟨_, rfl, .job _ (.windowWrite _) m⟩
    · exact ⟨_, rfl, .idle⟩
  | narrowWindowWrite offset width data =>
    dsimp only [exec, execNarrowWindowWrite]
    split
    · exact ⟨_, rfl, .idle⟩
    · exact ⟨_, rfl, .hostAccess s _⟩
  | timedOut => exact ⟨_, rfl, .settled .timeOut⟩
  | reading seq rsv body => exact ⟨_, rfl, .reportArrives s _⟩
  | load seq rsv reference placement => exact ⟨_, rfl, .reportArrives s _⟩
  | move seq rsv reference target => exact ⟨_, rfl, .reportArrives s _⟩
  | withdraw seq rsv reference => exact ⟨_, rfl, .reportArrives s _⟩
  | handover seq rsv reference receiver => exact ⟨_, rfl, .reportArrives s _⟩
  | arrive seq rsv stopNumber bodyRsv => exact ⟨_, rfl, .reportArrives s _⟩
  | depart seq rsv stopNumber bodyRsv => exact ⟨_, rfl, .reportArrives s _⟩
  | exported seq rsv lastSeq newTail =>
    dsimp only [exec, execExported]
    split
    · exact ⟨_, rfl, .ports (.report _)⟩
    · exact ⟨_, rfl, .idle⟩
  | exportCheckRead m =>
    dsimp only [exec, execExportCheckRead]
    split
    · exact ⟨_, rfl, .ports (.exportRead _ _)⟩
    · exact ⟨_, rfl, .idle⟩
  | time seq rsv calendarHigh calendarLow => exact ⟨_, rfl, .reportArrives s _⟩
  | query seq rsv reference => exact ⟨_, rfl, .reportArrives s _⟩
  | acknowledge data =>
    dsimp only [exec, execAcknowledge]
    split
    · exact ⟨_, rfl, .idle⟩
    · exact ⟨_, rfl, .hostAccess s _⟩
  | clearCounters causes =>
    dsimp only [exec, execClearCounters]
    split
    · exact ⟨_, rfl, .idle⟩
    · exact ⟨_, rfl, .hostAccess s _⟩
  | loadTrigger =>
    dsimp only [exec, execLoadTrigger]
    split
    · split
      · exact ⟨_, rfl, .job _ .write .ok⟩
      · exact ⟨_, rfl, .idle⟩
    · exact ⟨_, rfl, .idle⟩
  | setupLoadRead r =>
    dsimp only [exec, execSetupLoadRead]
    split
    · refine ⟨_, rfl, ?_⟩
      split
      · exact .load _ _ _
      · exact .ports (.loadRead _ _)
    · exact ⟨_, rfl, .idle⟩
  | writerTakeEntry => exact ⟨_, rfl, .ports .takeEntry⟩
  | spaceFound => exact ⟨_, rfl, .ports .findSpace⟩
  | writerWordWrite m =>
    dsimp only [exec, execWriterWordWrite]
    split
    · exact ⟨_, rfl, .ports (.recordWrite _ _ _ _ _)⟩
    · exact ⟨_, rfl, .idle⟩
  | trailerReadBack m =>
    dsimp only [exec, execTrailerReadBack]
    split
    · exact ⟨_, rfl, .ports (.readBack _ _ _ _)⟩
    · exact ⟨_, rfl, .idle⟩
  | statusRewrite => exact ⟨_, rfl, .ports .beginRewrite⟩
  | statusWordWrite m =>
    dsimp only [exec, execStatusWordWrite]
    split
    · exact ⟨_, rfl, .ports (.statusWrite _ _ _)⟩
    · exact ⟨_, rfl, .idle⟩
  | stagingDeadline slot => exact ⟨_, rfl, .settled (.staging slot)⟩
  | gapDeadline slot => exact ⟨_, rfl, .settled (.gap slot)⟩
  | graceExpiry k n => exact ⟨_, rfl, .settled (.machine k n _)⟩
  | recoveryExpiry k n => exact ⟨_, rfl, .settled (.machine k n _)⟩
  | expectedArrivalDeadline => exact ⟨_, rfl, .settled .cadence⟩
  | mainSupplyLoss b =>
    dsimp only [exec, execMainSupplyLoss]
    split
    · exact ⟨_, rfl, .settled (.loseMain b)⟩
    · exact ⟨_, rfl, .idle⟩
  | backupSupplyLoss => exact ⟨_, rfl, .settled .loseBackup⟩
  | mainSupplyReturn =>
    dsimp only [exec, execMainSupplyReturn]
    split
    · exact ⟨_, rfl, .settled .mainReturn⟩
    · exact ⟨_, rfl, .idle⟩
  | stableWaitComplete w =>
    dsimp only [exec, execStableWaitComplete]
    split
    · exact ⟨_, rfl, .wait w w.held⟩
    · exact ⟨_, rfl, .idle⟩
  | resetAssert a b c =>
    dsimp only [exec, execResetAssert]
    split
    · exact ⟨_, rfl, .idle⟩
    · exact ⟨_, rfl, .ports (.assertReset _)⟩
  | resetRelease =>
    dsimp only [exec, execResetRelease]
    split
    · exact ⟨_, rfl, .ports .releaseReset⟩
    · exact ⟨_, rfl, .idle⟩
  | logScanRead m =>
    dsimp only [exec, execLogScanRead]
    split
    · exact ⟨_, rfl, .ports (.scanRead _ _)⟩
    · exact ⟨_, rfl, .idle⟩
  | chillClockAdvance =>
    dsimp only [exec, execChillClockAdvance]
    split
    · exact ⟨_, rfl, .settled .advance⟩
    · exact ⟨_, rfl, .idle⟩

/-- The inversion of `exec`: a command that answers next has ended in one of these ways. -/
theorem ends_of_exec {i : Instr} {s t : State} (h : exec i s = .next t) : Ends s t := by
  obtain ⟨u, hu, hs⟩ := exec_ends i s
  obtain rfl : u = t := by rw [hu] at h; injection h
  exact hs

end Sys2Proof.Machine
end

section
/-! The invariant of every state between two commands: at reset, and kept by every step. -/

namespace Sys2Proof

open Machine

/-- Every operation keeps the bounds. -/
theorem Safety.Bounds.performs {s u : State} (h : Safety.Bounds s) (p : Performs s u) :
    Safety.Bounds u := by
  cases p with
  | arrive a => exact h.transport rfl rfl rfl rfl rfl rfl
  | job a j m => exact h.freePort.finishJob a j m
  | report r => exact h.complete r
  | exportRead r w => exact (h.freePort.judgeExport r w).releaseWaiting
  | timeOut => exact h.expireAssembly
  | loadRead copy w => exact h.freePort.loadWord copy w
  | scanRead c w => exact h.freePort.scanWord c w
  | takeEntry => exact h.takeEntry
  | findSpace => exact h.findSpace
  | recordWrite l ws chain n m => exact h.freePort.wordWritten l ws chain n m
  | readBack l ws chain m => exact h.freePort.readBack l ws chain m
  | beginRewrite => exact h.beginRewrite
  | statusWrite picture n m => exact h.freePort.statusWritten picture n m
  | staging slot => exact h.expireStaging slot
  | gap slot => exact h.expireGap slot
  | machine k n f => exact h.mapMachine k n f
  | cadence => exact h.expireCadence
  | loseMain b => exact h.loseMain b
  | loseBackup => exact h.loseBackup
  | mainReturn => exact h.transport rfl rfl rfl rfl rfl rfl
  | assertReset r => exact h.assertReset r
  | releaseReset => exact h.releaseReset
  | advance => exact h.advanceClock

theorem Safety.Bounds.settle_inv {u : State} (h : Safety.Bounds u) (s : State) :
    Safety.Inv (u.settle s) := ⟨h.settle s, u.settle_settled s⟩

theorem Safety.Bounds.settlePorts_inv {u : State} (h : Safety.Bounds u) (s : State) :
    Safety.Inv (u.settlePorts s) := ⟨h.settlePorts s, u.settlePorts_settled s⟩

theorem Safety.Inv.heldReset {s : State} (h : Safety.Inv s) (r : ResetAnswers) :
    Safety.Inv (s.heldReset r) := by
  unfold State.heldReset
  split
  · exact (h.bounds.actReset r).settlePorts_inv s
  · exact h

/-- Every command keeps the invariant: its operation keeps the bounds, and its end settles. -/
theorem Safety.Inv.ends {s t : State} (h : Safety.Inv s) (e : Ends s t) : Safety.Inv t := by
  cases e with
  | idle => exact h
  | settled p => exact (h.bounds.performs p).settle_inv s
  | ports p => exact (h.bounds.performs p).settlePorts_inv s
  | load copy w r => exact ((h.bounds.freePort.loadWord copy w).settlePorts_inv s).heldReset r
  | wait w r => exact ((h.bounds.completeWait w).settlePorts_inv s).heldReset r

/-- The queue of commands is no part of what the invariant speaks of. -/
theorem Safety.Inv.withPending {s : State} (h : Safety.Inv s) (p : List Instr) :
    Safety.Inv { s with pending := p } :=
  ⟨h.bounds.transport rfl rfl rfl rfl rfl rfl, ⟨h.settled.check, h.settled.line⟩⟩

/-- Settles O4: an idle step changes nothing, and a command keeps the invariant. -/
theorem invariantKept : Obligations.InvariantKept := by
  intro s t h hs
  unfold step at hs
  split at hs
  · obtain rfl : s = t := by injection hs
    exact h
  · exact (h.withPending _).ends (ends_of_exec hs)

/-- Settles O2: the table of 48 FREE entries, the empty queue and memory, and counts of 0. -/
theorem invariantAtReset : Obligations.InvariantAtReset where
  bounds :=
    { memory := rfl
      table := List.length_replicate
      queue := Nat.zero_le 16
      counters := by simp [Safety.countersBounded, State.reset, State.seal]
      seconds := Nat.zero_le maxWord
      sub := Nat.zero_le 63
      fairness := Nat.zero_le 8 }
  settled := { check := rfl, line := fun _ => rfl }

end Sys2Proof
end

section
/-! The account table by its operations (R7): which leave it, and how the rest keep who is aboard. -/

namespace Sys2Proof.Machine

/-! ### Operations that leave the account table as it was -/

@[simp] theorem State.memoryFault_accounts (s : State) (a : HostAccess) :
    (s.memoryFault a).accounts = s.accounts := by
  simp [State.memoryFault]

@[simp] theorem State.finishRead_accounts (s : State) (a : HostAccess) (m : MemAnswer) :
    (s.finishRead a m).accounts = s.accounts := by
  unfold State.finishRead; split <;> simp

@[simp] theorem State.finishWrite_accounts (s : State) (a : HostAccess) (m : MemAnswer) :
    (s.finishWrite a m).accounts = s.accounts := by
  unfold State.finishWrite; dsimp only; repeat' split
  all_goals simp

@[simp] theorem State.finishRmwRead_accounts (s : State) (a : HostAccess) (m : MemAnswer) :
    (s.finishRmwRead a m).accounts = s.accounts := by
  unfold State.finishRmwRead; split <;> simp

@[simp] theorem State.finishRmwWrite_accounts (s : State) (a : HostAccess) (w : Word) (m : MemAnswer) :
    (s.finishRmwWrite a w m).accounts = s.accounts := by
  unfold State.finishRmwWrite; dsimp only; split <;> simp

@[simp] theorem State.finishSuppressed_accounts (s : State) (a : HostAccess) (r : RejectReason) :
    (s.finishSuppressed a r).accounts = s.accounts := by
  simp [State.finishSuppressed]

@[simp] theorem State.takeEntry_accounts (s : State) : s.takeEntry.accounts = s.accounts := by
  unfold State.takeEntry; repeat' split
  all_goals simp [State.waitForSpace, State.assemble]

@[simp] theorem State.findSpace_accounts (s : State) : s.findSpace.accounts = s.accounts := by
  unfold State.findSpace; repeat' split
  all_goals simp [State.assemble]

@[simp] theorem State.haltWriter_accounts (s : State) : s.haltWriter.accounts = s.accounts := by
  simp [State.haltWriter]

@[simp] theorem State.wordWritten_accounts (s : State) (l : LogState) (ws : List Word) (chain : Half)
    (n : Nat) (m : MemAnswer) : (s.wordWritten l ws chain n m).accounts = s.accounts := by
  unfold State.wordWritten; dsimp only; split <;> simp

@[simp] theorem State.removeFront_accounts (s : State) : s.removeFront.accounts = s.accounts := by
  unfold State.removeFront; split <;> rfl

@[simp] theorem State.beginRewrite_accounts (s : State) : s.beginRewrite.accounts = s.accounts := by
  unfold State.beginRewrite; split <;> simp

@[simp] theorem State.startScanIfDue_accounts (s : State) :
    s.startScanIfDue.accounts = s.accounts := by
  unfold State.startScanIfDue; split <;> simp [State.startScan]

@[simp] theorem State.statusWritten_accounts (s : State) (p : List Word) (n : Nat) (m : MemAnswer) :
    (s.statusWritten p n m).accounts = s.accounts := by
  unfold State.statusWritten; dsimp only; repeat' split
  all_goals simp [State.nextStatusWord, State.endRewrite]

@[simp] theorem State.clearTransients_accounts (s : State) :
    s.clearTransients.accounts = s.accounts := rfl

@[simp] theorem State.runningAgain_accounts (s : State) :
    s.runningAgain.accounts = s.accounts := by
  simp [State.runningAgain, State.enter]

@[simp] theorem State.putInForce_accounts (s : State) (c : Setup) :
    (s.putInForce c).accounts = s.accounts := rfl

@[simp] theorem State.acceptCold_accounts (s : State) (c : Setup) :
    (s.acceptCold c).accounts = s.accounts := by
  simp [State.acceptCold]

@[simp] theorem State.rejectLoad_accounts (s : State) (r : SetupReject) :
    (s.rejectLoad r).accounts = s.accounts := by
  unfold State.rejectLoad; dsimp only; split <;> simp [State.enter]

@[simp] theorem State.abandonJob_accounts (s : State) (a : HostAccess) (j : HostJob) :
    (s.abandonJob a j).accounts = s.accounts := by
  cases j <;> simp [State.abandonJob]

@[simp] theorem State.abandonWriter_accounts (s : State) :
    s.abandonWriter.accounts = s.accounts := by
  unfold State.abandonWriter; split <;> simp

@[simp] theorem State.abandonStatus_accounts (s : State) :
    s.abandonStatus.accounts = s.accounts := by
  unfold State.abandonStatus; split <;> simp

@[simp] theorem State.abandonAccess_accounts (s : State) :
    s.abandonAccess.accounts = s.accounts := by
  unfold State.abandonAccess; repeat' split
  all_goals simp

@[simp] theorem State.loseDomain_accounts (s : State) : s.loseDomain.accounts = s.accounts := by
  unfold State.loseDomain; split <;> rfl

@[simp] theorem State.loseMainWith_accounts (s : State) (p : Option PowerLoss) (b : Bool) :
    (s.loseMainWith p b).accounts = s.accounts := by
  unfold State.loseMainWith; dsimp only; split <;> simp [State.dropPort]

@[simp] theorem State.loseBackup_accounts (s : State) : s.loseBackup.accounts = s.accounts := by
  unfold State.loseBackup; dsimp only; split <;> simp

@[simp] theorem State.endWriterAccess_accounts (s : State) (m : MemAnswer) :
    (s.endWriterAccess m).accounts = s.accounts := by
  unfold State.endWriterAccess; split <;> simp

@[simp] theorem State.endStatusAccess_accounts (s : State) (m : MemAnswer) :
    (s.endStatusAccess m).accounts = s.accounts := by
  unfold State.endStatusAccess; split <;> simp

@[simp] theorem State.rerun_accounts (s : State) : s.rerun.accounts = s.accounts := by
  simp [State.rerun, State.enter]

@[simp] theorem State.expireMachines_accounts (s : State) :
    s.expireMachines.accounts = s.accounts := rfl

@[simp] theorem State.setAccount_accounts (s : State) (slot : Nat) (e : Entry) :
    (s.setAccount slot e).accounts = s.accounts.set slot e := rfl

/-! ### What one evaluation writes -/

/-- The consignment with another verdict. -/
def Consignment.withVerdict (c : Consignment) (v : Verdict) : Consignment := { c with verdict := v }

/-- What the results of an evaluation do to their account and the queue (R72, R85, R89): the entry, the
cause a break latches, the EXCURSION record and the VERDICT record. -/
def State.takeEvaluation (s : State) (slot : Nat) (c : Consignment) (r : Evaluated) : State :=
  let s1 := s.setAccount slot (.tracked (c.withVerdict r.verdict) r.tracking)
  if !c.verdict.isBroken && r.verdict.isBroken then
    ((s1.latch .broken).queueEnded slot c.reference r.ended).produce
      (verdictRecord slot s.now (c.withVerdict r.verdict) r.tracking.totals)
  else s1.queueEnded slot c.reference r.ended

/-- A TRACKED account in a compartment with a present effective reading is evaluated (R72). -/
theorem State.evaluateSlot_present {s : State} {slot : Nat} {c : Consignment} {t : Tracking}
    {k : Compartment} {e : Effective} (h : s.account slot = .tracked c t)
    (hk : s.compartments[c.compartment]? = some k) (he : k.effective = some e) :
    s.evaluateSlot slot = s.takeEvaluation slot c
      (evaluate s.cfg (s.cfg.band c.band) s.now e k.allowanceActive c.verdict t) := by
  simp only [State.evaluateSlot, h, hk, he, State.takeEvaluation, Consignment.withVerdict, State.latchIf]
  split <;> rfl

/-- Without one nothing happens (R73). -/
theorem State.evaluateSlot_absent {s : State} {slot : Nat} {c : Consignment} {t : Tracking}
    {k : Compartment} (h : s.account slot = .tracked c t)
    (hk : s.compartments[c.compartment]? = some k) (he : k.effective = none) :
    s.evaluateSlot slot = s := by
  simp only [State.evaluateSlot, h, hk, he]

/-- All that the evaluation in a slot can do. -/
theorem State.evaluateSlot_cases (s : State) (slot : Nat) :
    s.evaluateSlot slot = s ∨ ∃ c t k e, s.account slot = .tracked c t ∧
      s.compartments[c.compartment]? = some k ∧ k.effective = some e ∧
      s.evaluateSlot slot = s.takeEvaluation slot c
        (evaluate s.cfg (s.cfg.band c.band) s.now e k.allowanceActive c.verdict t) := by
  cases h : s.account slot with
  | tracked c t =>
    cases hk : s.compartments[c.compartment]? with
    | none => exact .inl (by simp only [State.evaluateSlot, h, hk])
    | some k =>
      cases he : k.effective with
      | none => exact .inl (State.evaluateSlot_absent h hk he)
      | some e => exact .inr ⟨c, t, k, e, rfl, hk, he, State.evaluateSlot_present h hk he⟩
  | free => exact .inl (by simp only [State.evaluateSlot, h])
  | staged c d => exact .inl (by simp only [State.evaluateSlot, h])
  | closing c o t => exact .inl (by simp only [State.evaluateSlot, h])

/-! ### A lost WITHDRAWN record -/

/-- The loss of a WITHDRAWN record concerns no account (R119, R127). -/
theorem State.produce_withdrawn_accounts (s : State) (slot t : Nat) (reference : BitVec 64) :
    (s.produce (withdrawnRecord slot t reference)).accounts = s.accounts := by
  unfold State.produce
  split
  · rfl
  · have hid (i : Nat) (e : Entry) : (withdrawnRecord slot t reference).afterLoss i e = e := rfl
    simp [State.lose, hid, List.mapIdx_eq_ofFn]

end Sys2Proof.Machine
end

section
/-! The order of verdicts, and its two relations between account tables (R7): `KeepsAboard` where every
account stays aboard, `Rises` where one may leave. -/

namespace Sys2Proof

open Machine

/-! ### Verdicts -/

theorem Safety.upward.refl (v : Verdict) : Safety.upward v v := .inl rfl

theorem Safety.upward.trans {u v w : Verdict} (h : Safety.upward u v) (k : Safety.upward v w) :
    Safety.upward u w := by
  rcases h with rfl | h
  · exact k
  · rcases k with rfl | k
    · exact .inr h
    · exact .inr (h.trans k)

theorem Machine.Verdict.toUnproven_upward (v : Verdict) (cause : UnprovenCause) :
    Safety.upward v (v.toUnproven cause) := by
  cases v with
  | clean => exact .inr Nat.zero_lt_one
  | unproven c => exact .refl _
  | broken c => exact .refl _

theorem Machine.Verdict.breakIf_upward (v : Verdict) (found : Bool) (cause : BrokenCause) :
    Safety.upward v (v.breakIf found cause) := by
  unfold Verdict.breakIf
  split
  · cases v with
    | clean => exact .inr Nat.zero_lt_two
    | unproven c => exact .inr Nat.one_lt_two
    | broken c => exact .refl _
  · exact .refl _

/-- The three tests of an evaluation only raise the verdict (R84). -/
theorem Machine.evaluate_upward (cfg : Setup) (b : Band) (now : Nat) (e : Effective) (allowance : Bool)
    (v : Verdict) (t : Tracking) : Safety.upward v (evaluate cfg b now e allowance v t).verdict :=
  ((Verdict.breakIf_upward _ _ _).trans (Verdict.breakIf_upward _ _ _)).trans
    (Verdict.breakIf_upward _ _ _)

/-! ### Accounts -/

/-- What a command may make of a consignment that stays aboard (R7). -/
def Safety.succeeds (c d : Consignment) : Prop :=
  d.reference = c.reference ∧ Safety.upward c.verdict d.verdict

theorem Safety.succeeds.refl (c : Consignment) : Safety.succeeds c c := ⟨rfl, .refl _⟩

theorem Safety.succeeds.trans {b c d : Consignment} (h : Safety.succeeds b c)
    (k : Safety.succeeds c d) : Safety.succeeds b d :=
  ⟨k.1.trans h.1, h.2.trans k.2⟩

theorem Machine.Consignment.unprove_succeeds (c : Consignment) (cause : UnprovenCause) :
    Safety.succeeds c (c.unprove cause) := ⟨rfl, c.verdict.toUnproven_upward cause⟩

@[simp] theorem Machine.Entry.mapConsignment_consignment (f : Consignment → Consignment) (e : Entry) :
    (e.mapConsignment f).consignment = e.consignment.map f := by
  cases e <;> rfl

theorem Machine.QEntry.afterLoss_succeeds (q : QEntry) (slot : Nat) {e : Entry} {c : Consignment}
    (h : e.consignment = some c) :
    ∃ d, (q.afterLoss slot e).consignment = some d ∧ Safety.succeeds c d := by
  unfold QEntry.afterLoss
  split
  · exact ⟨_, by rw [Entry.mapConsignment_consignment, h]; rfl, c.unprove_succeeds _⟩
  · exact ⟨c, h, .refl c⟩

/-- The consignment aboard in a slot of a table. -/
def consignmentAt (accounts : List Entry) (slot : Nat) : Option Consignment :=
  accounts[slot]?.bind Entry.consignment

theorem consignmentAt_of_getElem? {accounts : List Entry} {slot : Nat} {e : Entry}
    (h : accounts[slot]? = some e) : consignmentAt accounts slot = e.consignment := by
  rw [consignmentAt, h]; rfl

theorem Machine.State.account_consignment (s : Machine.State) (slot : Nat) :
    (s.account slot).consignment = consignmentAt s.accounts slot := by
  unfold Machine.State.account consignmentAt
  rw [List.getD_eq_getElem?_getD]
  cases s.accounts[slot]? <;> rfl

theorem consignmentAt_set_same {accounts : List Entry} {slot : Nat} {c : Consignment}
    (h : consignmentAt accounts slot = some c) (e : Entry) :
    consignmentAt (accounts.set slot e) slot = e.consignment := by
  unfold consignmentAt at h ⊢
  obtain ⟨x, hx, -⟩ := Option.bind_eq_some_iff.1 h
  obtain ⟨hl, -⟩ := List.getElem?_eq_some_iff.1 hx
  rw [List.getElem?_set_self hl]; rfl

theorem consignmentAt_set_other {accounts : List Entry} {slot k : Nat} (h : slot ≠ k) (e : Entry) :
    consignmentAt (accounts.set slot e) k = consignmentAt accounts k := by
  unfold consignmentAt; rw [List.getElem?_set_ne h]

/-- Every account aboard is aboard afterwards, in its slot, with its reference and no lower verdict. -/
def Safety.KeepsAboard (a b : List Entry) : Prop :=
  ∀ slot c, consignmentAt a slot = some c →
    ∃ d, consignmentAt b slot = some d ∧ Safety.succeeds c d

/-- Every account aboard before and afterwards has kept its reference, and its verdict has not fallen. -/
def Safety.Rises (a b : List Entry) : Prop :=
  ∀ slot c d, consignmentAt a slot = some c → consignmentAt b slot = some d → Safety.succeeds c d

namespace Safety.KeepsAboard

theorem refl (a : List Entry) : KeepsAboard a a := fun _ c h => ⟨c, h, .refl c⟩

theorem trans {a b c : List Entry} (h : KeepsAboard a b) (k : KeepsAboard b c) : KeepsAboard a c := by
  intro slot x hx
  obtain ⟨y, hy, hxy⟩ := h slot x hx
  obtain ⟨z, hz, hyz⟩ := k slot y hy
  exact ⟨z, hz, hxy.trans hyz⟩

theorem rises {a b : List Entry} (h : KeepsAboard a b) : Rises a b := by
  intro slot c d hc hd
  obtain ⟨x, hx, hcx⟩ := h slot c hc
  obtain rfl : x = d := by rw [hx] at hd; injection hd
  exact hcx

theorem trans_rises {a b c : List Entry} (h : KeepsAboard a b) (k : Rises b c) : Rises a c := by
  intro slot x z hx hz
  obtain ⟨y, hy, hxy⟩ := h slot x hx
  exact hxy.trans (k slot y z hy hz)

/-- An entry put in a slot keeps everyone aboard if it succeeds what stood there at first: what happened to
the slot in between makes no difference. -/
theorem set {a b : List Entry} (h : KeepsAboard a b) {slot : Nat} {e : Entry}
    (he : ∀ c, consignmentAt a slot = some c → ∃ d, e.consignment = some d ∧ succeeds c d) :
    KeepsAboard a (b.set slot e) := by
  intro k c hc
  obtain ⟨x, hx, hcx⟩ := h k c hc
  by_cases hk : slot = k
  · subst hk
    obtain ⟨d, hd, hcd⟩ := he c hc
    exact ⟨d, (consignmentAt_set_same hx e).trans hd, hcd⟩
  · exact ⟨x, (consignmentAt_set_other hk e).trans hx, hcx⟩

/-- A slot made FREE: everyone else stays aboard. -/
theorem set_free {a b : List Entry} (h : KeepsAboard a b) (slot : Nat) :
    Rises a (b.set slot .free) := by
  intro k c d hc hd
  obtain ⟨x, hx, hcx⟩ := h k c hc
  by_cases hk : slot = k
  · subst hk
    rw [consignmentAt_set_same hx] at hd
    cases hd
  · rw [consignmentAt_set_other hk, hx] at hd
    obtain rfl : x = d := by injection hd
    exact hcx

theorem fold {α : Type} {f : State → α → State} (hf : ∀ s a, KeepsAboard s.accounts (f s a).accounts)
    (l : List α) (s : State) : KeepsAboard s.accounts (l.foldl f s).accounts := by
  induction l generalizing s with
  | nil => exact refl _
  | cons a l ih => exact (hf s a).trans (ih (f s a))

end Safety.KeepsAboard

@[simp] theorem Machine.Entry.withRecordSeq_consignment (e : Entry) (seq : Word) :
    (e.withRecordSeq seq).consignment = e.consignment := by
  cases e <;> rfl

/-! ### Operations that keep every account aboard

Each lemma goes on from a table `a` that the operation's state has already kept. -/

theorem Machine.State.keepsAboard_lose (s : State) (q : QEntry) :
    Safety.KeepsAboard s.accounts (s.lose q).accounts := by
  intro slot c hc
  obtain ⟨e, he, hec⟩ := Option.bind_eq_some_iff.1 hc
  have hl : (s.lose q).accounts[slot]? = some (q.afterLoss slot e) := by
    simp [State.lose, he]
  rw [consignmentAt_of_getElem? hl]
  exact q.afterLoss_succeeds slot hec

namespace Safety.KeepsAboard

variable {a : List Entry} {s : State}

theorem of_eq (h : KeepsAboard a s.accounts) {t : State} (e : t.accounts = s.accounts) :
    KeepsAboard a t.accounts := e ▸ h

theorem latch (h : KeepsAboard a s.accounts) (c : Cause) : KeepsAboard a (s.latch c).accounts :=
  h.of_eq (by simp)

theorem latchIf (h : KeepsAboard a s.accounts) (b : Bool) (c : Cause) :
    KeepsAboard a (s.latchIf b c).accounts := h.of_eq (by simp)

theorem judgeUnitOff (h : KeepsAboard a s.accounts) : KeepsAboard a s.judgeUnitOff.accounts :=
  h.of_eq (by simp)

theorem judgeNearFull (h : KeepsAboard a s.accounts) : KeepsAboard a s.judgeNearFull.accounts :=
  h.of_eq (by simp)

theorem take (h : KeepsAboard a s.accounts) (seq : Half) : KeepsAboard a (s.take seq).accounts :=
  h.of_eq (by simp)

theorem refuse (h : KeepsAboard a s.accounts) (seq : Half) (r : ReportRefusal) :
    KeepsAboard a (s.refuse seq r).accounts := h.of_eq (by simp)

theorem refuseAssembly (h : KeepsAboard a s.accounts) (r : ReportRefusal) :
    KeepsAboard a (s.refuseAssembly r).accounts := h.of_eq (by simp)

theorem fullRewrite (h : KeepsAboard a s.accounts) : KeepsAboard a s.fullRewrite.accounts :=
  h.of_eq (by simp)

theorem produce (h : KeepsAboard a s.accounts) (q : QEntry) :
    KeepsAboard a (s.produce q).accounts := by
  unfold State.produce
  split
  · exact h
  · exact h.trans (s.keepsAboard_lose q)

theorem queueHeld (h : KeepsAboard a s.accounts) : KeepsAboard a s.queueHeld.accounts := by
  unfold State.queueHeld
  split
  · refine produce ?_ _
    exact h
  · exact h

theorem runningAgain (h : KeepsAboard a s.accounts) : KeepsAboard a s.runningAgain.accounts :=
  h.of_eq (by simp)

/-- An entry put in a slot succeeds what the table held there at first. -/
theorem setAccount (h : KeepsAboard a s.accounts) {slot : Nat} {e : Entry} {c d : Consignment}
    (hs : consignmentAt a slot = some c) (he : e.consignment = some d) (hd : succeeds c d) :
    KeepsAboard a (s.setAccount slot e).accounts :=
  h.set fun x hx => ⟨d, he, by rw [hs] at hx; injection hx with hx; exact hx ▸ hd⟩

theorem queueEnded (h : KeepsAboard a s.accounts) (slot : Nat) (reference : BitVec 64)
    (ended : Option Excursion) : KeepsAboard a (s.queueEnded slot reference ended).accounts := by
  cases ended with
  | none => exact h
  | some x => exact h.produce _

end Safety.KeepsAboard

open Safety

theorem consignmentAt_of_account {s : State} {slot : Nat} {e : Entry} (h : s.account slot = e) :
    consignmentAt s.accounts slot = e.consignment := by
  rw [← State.account_consignment, h]

theorem Machine.State.keepsAboard_updateCompartments (s : State) (r : Report) :
    KeepsAboard s.accounts (s.updateCompartments r).accounts := by
  refine (KeepsAboard.fold (fun t k => ?_) _ s).judgeUnitOff
  unfold State.updateCompartment
  split
  · exact .refl _
  · dsimp only
    split
    · exact .refl _
    · refine (KeepsAboard.latchIf ?_ _ _).produce _
      exact .refl _

theorem Machine.State.keepsAboard_searchGaps (s : State) (p : List (Option Nat)) :
    KeepsAboard s.accounts (s.searchGaps p).accounts := by
  refine KeepsAboard.fold (fun t k => ?_) _ s
  unfold State.searchGap
  split
  · split
    · exact .produce (.refl _) _
    · exact .refl _
  · exact .refl _

theorem Machine.State.keepsAboard_evaluateSlot (s : State) (slot : Nat) :
    KeepsAboard s.accounts (s.evaluateSlot slot).accounts := by
  rcases s.evaluateSlot_cases slot with h | ⟨c, t, k, e, hc, -, -, h⟩
  · rw [h]; exact .refl _
  · have hset := KeepsAboard.setAccount (KeepsAboard.refl s.accounts) (slot := slot)
      (e := .tracked (c.withVerdict (evaluate s.cfg (s.cfg.band c.band) s.now e k.allowanceActive
        c.verdict t).verdict) (evaluate s.cfg (s.cfg.band c.band) s.now e k.allowanceActive
        c.verdict t).tracking) (consignmentAt_of_account hc) rfl
      ⟨rfl, evaluate_upward s.cfg (s.cfg.band c.band) s.now e k.allowanceActive c.verdict t⟩
    rw [h]
    unfold State.takeEvaluation
    split
    · exact ((hset.latch _).queueEnded _ _ _).produce _
    · exact hset.queueEnded _ _ _

theorem Machine.State.keepsAboard_walk (s : State) : KeepsAboard s.accounts s.walk.accounts := by
  refine (KeepsAboard.fold (fun t slot => ?_) _ s).judgeUnitOff
  unfold State.walkSlot
  split
  · exact .refl _
  · exact .refl _
  · exact t.keepsAboard_evaluateSlot slot
  · next c d hc =>
    split
    · exact .refl _
    · split
      · refine KeepsAboard.trans ?_ (State.keepsAboard_evaluateSlot _ slot)
        refine (KeepsAboard.setAccount ?_ (consignmentAt_of_account hc) rfl (.refl c)).produce _
        exact .refl _
      · exact .refl _

theorem Machine.State.keepsAboard_handleReading (s : State) (r : Report) :
    KeepsAboard s.accounts (s.handleReading r).accounts := by
  unfold State.handleReading
  split
  · have haccept : KeepsAboard s.accounts (s.acceptReading r.readingSeq).accounts :=
      (KeepsAboard.refl _).of_eq (by simp)
    exact (((haccept.trans (State.keepsAboard_updateCompartments _ r)).trans
      (State.keepsAboard_searchGaps _ _)).trans (State.keepsAboard_walk _)).take _
  · exact (KeepsAboard.refl _).refuse _ _

theorem consignmentAt_of_lowestFree {accounts : List Entry} {slot : Nat}
    (h : lowestFree accounts = some slot) : consignmentAt accounts slot = none := by
  unfold lowestFree at h
  obtain ⟨hl, he, -⟩ := List.findIdx?_eq_some_iff_getElem.1 h
  have he : accounts[slot] = .free := by simpa using he
  rw [consignmentAt_of_getElem? (List.getElem?_eq_getElem hl), he]; rfl

theorem Machine.State.lowestFree_of_checkLoad {s : State} {r : Report} {slot : Nat}
    (h : s.checkLoad r = .ok slot) : lowestFree s.accounts = some slot := by
  unfold State.checkLoad at h
  repeat' split at h
  all_goals cases h
  assumption

/-- A LOAD takes a slot in which nobody is aboard (R4, R12). -/
theorem Machine.State.keepsAboard_handleLoad (s : State) (r : Report) :
    KeepsAboard s.accounts (s.handleLoad r).accounts := by
  unfold State.handleLoad
  split
  · exact (KeepsAboard.refl _).refuse _ _
  · next slot hs =>
    have hfree := consignmentAt_of_lowestFree (State.lowestFree_of_checkLoad hs)
    refine KeepsAboard.take (KeepsAboard.produce (KeepsAboard.set (.refl _) fun c hc => ?_) _) _
    rw [hfree] at hc; cases hc

theorem Machine.State.keepsAboard_handleMove (s : State) (r : Report) :
    KeepsAboard s.accounts (s.handleMove r).accounts := by
  unfold State.handleMove
  split
  · exact (KeepsAboard.refl _).refuse _ _
  · next slot c hc =>
    refine (((KeepsAboard.set (.refl _) fun x hx => ?_).produce _).judgeUnitOff).take _
    rw [← State.account_consignment] at hx
    exact ⟨{ x with compartment := r.compartment },
      by rw [Entry.mapConsignment_consignment, hx]; rfl, rfl, .refl _⟩

/-- Closing an account puts it back as the report found it, whatever the loss of its records did to it
meanwhile (R25). -/
theorem Machine.State.keepsAboard_closeTracked {s : State} {slot : Nat} {c : Consignment} {t : Tracking}
    (h : s.account slot = .tracked c t) (w : Option Word) :
    KeepsAboard s.accounts (s.closeTracked slot c t w).accounts := by
  unfold State.closeTracked
  refine KeepsAboard.judgeUnitOff (KeepsAboard.setAccount (KeepsAboard.produce ?_ _)
    (consignmentAt_of_account h) rfl (.refl c))
  split
  · exact .refl _
  · exact .produce (.refl _) _

theorem Machine.State.keepsAboard_closeStaged {s : State} {slot : Nat} {c : Consignment} {d : Nat}
    (h : s.account slot = .staged c d) (w : Option Word) :
    KeepsAboard s.accounts (s.closeStaged slot c w).accounts :=
  KeepsAboard.latchIf (KeepsAboard.setAccount (KeepsAboard.produce (.refl _) _)
    (consignmentAt_of_account h) rfl (c.unprove_succeeds .staging)) _ _

theorem Machine.State.keepsAboard_handleHandover (s : State) (r : Report) :
    KeepsAboard s.accounts (s.handleHandover r).accounts := by
  unfold State.handleHandover
  split
  · exact (KeepsAboard.refl _).refuse _ _
  · split
    · next h => exact (State.keepsAboard_closeStaged h _).take _
    · next h => exact (State.keepsAboard_closeTracked h _).take _
    · exact .refl _
    · exact .refl _

theorem Machine.State.keepsAboard_openAtDeadline {s : State} {slot : Nat} {c : Consignment} {d : Nat}
    (h : s.account slot = .staged c d) : KeepsAboard s.accounts (s.openAtDeadline slot c d).accounts :=
  (((KeepsAboard.setAccount (.refl _) (consignmentAt_of_account h) rfl
    (c.unprove_succeeds .staging)).latchIf _ _).produce _).judgeUnitOff

theorem Machine.State.keepsAboard_gapAtDeadline {s : State} {slot : Nat} {c : Consignment} {t : Tracking}
    (h : s.account slot = .tracked c t) (d : Nat) :
    KeepsAboard s.accounts (s.gapAtDeadline slot c t d).accounts := by
  have hset := KeepsAboard.setAccount (KeepsAboard.refl s.accounts) (slot := slot)
    (e := .tracked (c.unprove .gap) { t with gapDeadline := none }) (consignmentAt_of_account h) rfl
    (c.unprove_succeeds .gap)
  unfold State.gapAtDeadline
  dsimp only
  split
  · exact (hset.latch _).produce _
  · exact hset

theorem Machine.State.keepsAboard_expireStaging (s : State) (slot : Nat) :
    KeepsAboard s.accounts (s.expireStaging slot).accounts := by
  unfold State.expireStaging
  split
  · next h =>
    split
    · exact State.keepsAboard_openAtDeadline h
    · exact .refl _
  all_goals exact .refl _

theorem Machine.State.keepsAboard_expireGap (s : State) (slot : Nat) :
    KeepsAboard s.accounts (s.expireGap slot).accounts := by
  unfold State.expireGap
  split
  · next h =>
    split
    · exact .refl _
    · split
      · exact State.keepsAboard_gapAtDeadline h _
      · exact .refl _
  all_goals exact .refl _

theorem Machine.State.keepsAboard_takeDeadline (s : State) (slot : Nat) :
    KeepsAboard s.accounts (s.takeDeadline slot).accounts := by
  unfold State.takeDeadline
  split
  · next h => exact State.keepsAboard_openAtDeadline h
  · next h =>
    split
    · exact .refl _
    · exact State.keepsAboard_gapAtDeadline h _
  all_goals exact .refl _

theorem Safety.KeepsAboard.takeFallen (fuel : Nat) {a : List Entry} {s : State}
    (h : KeepsAboard a s.accounts) : KeepsAboard a (takeFallen fuel s).accounts := by
  induction fuel generalizing s with
  | zero => exact h
  | succ n ih =>
    unfold Machine.takeFallen
    split
    · exact h
    · split
      · exact h
      · next hc =>
        obtain ⟨k, rfl⟩ := State.chooseSlot_frame hc
        exact ih (h.trans (State.keepsAboard_takeDeadline { s with free := k } _))

theorem Machine.State.keepsAboard_expireSecond (s : State) :
    KeepsAboard s.accounts s.expireSecond.accounts := by
  unfold State.expireSecond
  split
  · exact .refl _
  · exact KeepsAboard.takeFallen 96 ((KeepsAboard.refl _).of_eq (by simp))

theorem Machine.State.keepsAboard_advanceClock (s : State) :
    KeepsAboard s.accounts s.advanceClock.accounts := by
  have hassembly : KeepsAboard s.accounts s.expireAssembly.accounts :=
    (KeepsAboard.refl _).of_eq (by simp)
  unfold State.advanceClock
  dsimp only
  split
  · exact hassembly.trans (State.keepsAboard_expireSecond _)
  · exact hassembly

theorem Machine.State.keepsAboard_loadWord (s : State) (copy : List Word) (w : Option Word) :
    KeepsAboard s.accounts (s.loadWord copy w).accounts := by
  have accept (c : Setup) : KeepsAboard s.accounts (s.acceptRunning c).accounts := by
    unfold State.acceptRunning
    dsimp only
    refine (((KeepsAboard.refuseAssembly ?_ _).judgeNearFull).produce _).fullRewrite
    split <;> exact .refl _
  have decided (r : Option SetupReject) (c : Setup) :
      KeepsAboard s.accounts (s.decideLoad r c).accounts := by
    unfold State.decideLoad
    split
    · exact (KeepsAboard.refl _).of_eq (by simp)
    · split
      · exact accept c
      · exact (KeepsAboard.refl _).of_eq (by simp)
  unfold State.loadWord
  split
  · exact decided _ _
  · dsimp only
    split
    · exact .refl _
    · exact decided _ _

theorem Machine.State.keepsAboard_scanWord (s : State) (c : Scanner) (w : Option Word) :
    KeepsAboard s.accounts (s.scanWord c w).accounts := by
  unfold State.scanWord
  dsimp only
  split
  · refine KeepsAboard.latch (KeepsAboard.judgeNearFull (KeepsAboard.queueHeld ?_)) .restart
    refine KeepsAboard.produce ?_ _
    exact .refl _
  · exact .refl _

theorem Machine.State.keepsAboard_handleStop (s : State) (r : Report) :
    KeepsAboard s.accounts (s.handleStop r).accounts := by
  have stops (n : Option Half) (q : QEntry) :
      KeepsAboard s.accounts ((State.produce { s with stop := n } q).take r.seq).accounts := by
    refine (KeepsAboard.produce ?_ _).take _
    exact .refl _
  unfold State.handleStop State.handleArrive State.handleDepart
  repeat' split
  all_goals first
    | exact (KeepsAboard.refl _).refuse _ _
    | exact stops _ _

theorem Machine.State.keepsAboard_handleTime (s : State) (r : Report) :
    KeepsAboard s.accounts (s.handleTime r).accounts := by
  unfold State.handleTime
  split
  · exact (KeepsAboard.refl _).refuse _ _
  · refine (KeepsAboard.produce ?_ _).take _
    exact .refl _

theorem Machine.State.keepsAboard_returnUpTo (s : State) (p : ReturnPoint) :
    KeepsAboard s.accounts (s.returnUpTo p).accounts := by
  have hpower : KeepsAboard s.accounts s.restartValues.noteReturn.queuePower.accounts := by
    refine KeepsAboard.produce ?_ _
    exact .refl _
  cases p with
  | cleared => exact .refl _
  | noted => exact .refl _
  | deadlines n => exact hpower.takeFallen n
  | restartLatched => exact (hpower.takeFallen 96).latch _

theorem Machine.State.keepsAboard_returnOrLose (s : State) (l : Option ReturnLoss) :
    KeepsAboard s.accounts (s.returnOrLose l).accounts := by
  cases l with
  | none => exact (s.keepsAboard_returnUpTo _).runningAgain
  | some l =>
    exact (s.keepsAboard_returnUpTo l.point).of_eq
      (by simp [State.returnOrLose, State.brokenReturn])

theorem Machine.State.keepsAboard_releaseReset (s : State) :
    KeepsAboard s.accounts s.releaseReset.accounts := by
  unfold State.releaseReset
  dsimp only
  split
  · split
    · refine KeepsAboard.runningAgain (KeepsAboard.latch (KeepsAboard.produce ?_ _) .restart)
      exact .refl _
    · exact (KeepsAboard.refl _).of_eq (by simp)
  · exact .refl _

/-! ### Operations that an account may leave -/

theorem Safety.Rises.of_eq {a b : List Entry} (h : Rises a b) {c : List Entry} (e : c = b) :
    Rises a c := e ▸ h

theorem Safety.Rises.judgeNearFull {a : List Entry} {s : State} (h : Rises a s.accounts) :
    Rises a s.judgeNearFull.accounts := h.of_eq (by simp)

theorem Safety.Rises.endLockout {a : List Entry} {s : State} (h : Rises a s.accounts) :
    Rises a s.endLockout.accounts := h.of_eq (by simp)

/-- A WITHDRAW frees its slot, and the loss of its record concerns nobody (R24, R119). -/
theorem Machine.State.rises_handleWithdraw (s : State) (r : Report) :
    Rises s.accounts (s.handleWithdraw r).accounts := by
  unfold State.handleWithdraw
  split
  · exact ((KeepsAboard.refl _).refuse _ _).rises
  · next slot _ =>
    refine ((KeepsAboard.refl _).set_free slot).of_eq ?_
    simp [State.produce_withdrawn_accounts]

theorem Machine.State.rises_handle (s : State) (r : Report) :
    Rises s.accounts (s.handle r).accounts := by
  unfold State.handle
  split
  · exact (s.keepsAboard_handleReading r).rises
  · exact (s.keepsAboard_handleLoad r).rises
  · exact (s.keepsAboard_handleMove r).rises
  · exact (s.keepsAboard_handleHandover r).rises
  · exact s.rises_handleWithdraw r
  · exact (s.keepsAboard_handleStop r).rises
  · exact (KeepsAboard.refl _).rises.of_eq (by simp)
  · exact (s.keepsAboard_handleTime r).rises
  · exact (KeepsAboard.refl _).rises.of_eq (by simp)

theorem Machine.State.rises_handOver (s : State) (r : Report) :
    Rises s.accounts (s.handOver r).accounts := by
  unfold State.handOver
  split
  · exact ((KeepsAboard.refl _).refuse _ _).rises
  · split
    · exact ((KeepsAboard.refl _).refuse _ _).rises
    · exact s.rises_handle r

theorem Machine.State.rises_complete (s : State) (r : Report) :
    Rises s.accounts (s.complete r).accounts := by
  unfold State.complete
  split
  · exact s.rises_handOver r
  · split <;> exact (KeepsAboard.refl _).rises

theorem Machine.State.rises_releaseWaiting (s : State) :
    Rises s.accounts s.releaseWaiting.accounts := by
  unfold State.releaseWaiting
  split
  · exact (KeepsAboard.refl _).rises
  · refine Rises.of_eq (State.rises_handOver
      { s with assembler := { s.assembler with handling := none, waiting := none } } _) rfl

theorem Machine.State.judgeHeader_accounts (s : State) (h : Word) :
    (s.judgeHeader h).accounts = s.accounts := by
  unfold State.judgeHeader
  repeat' split
  all_goals simp

theorem Machine.State.rises_feed (s : State) (offset : Nat) (w : Word) :
    Rises s.accounts (s.feed offset w).accounts := by
  have refuses (r : ReportRefusal) : Rises s.accounts (s.refuseAssembly r).accounts :=
    (KeepsAboard.refl _).rises.of_eq (by simp)
  unfold State.feed
  split
  · exact (refuses .overtaken).of_eq (State.judgeHeader_accounts _ w)
  · split
    · exact (KeepsAboard.refl _).rises
    · split
      · exact refuses _
      · split
        · exact (KeepsAboard.refl _).rises
        · split
          · exact State.rises_complete { s with assembler := { s.assembler with collecting := none } } _
          · exact refuses _

theorem Machine.State.rises_finishWindow (s : State) (a : HostAccess) (offset : Nat) (m : MemAnswer) :
    Rises s.accounts (s.finishWindow a offset m).accounts := by
  have hfeed := (s.memWrite m a.wordAddr a.data).rises_feed offset a.data
  unfold State.finishWindow
  dsimp only
  split
  · simpa using hfeed
  · exact (KeepsAboard.refl _).rises.of_eq (by simp)

theorem Machine.State.rises_finishJob (s : State) (a : HostAccess) (j : HostJob) (m : MemAnswer) :
    Rises s.accounts (s.finishJob a j m).accounts := by
  cases j with
  | windowWrite offset => exact s.rises_finishWindow a offset m
  | read => exact (KeepsAboard.refl _).rises.of_eq (by simp [State.finishJob])
  | write => exact (KeepsAboard.refl _).rises.of_eq (by simp [State.finishJob])
  | rmwRead => exact (KeepsAboard.refl _).rises.of_eq (by simp [State.finishJob])
  | rmwWrite merged => exact (KeepsAboard.refl _).rises.of_eq (by simp [State.finishJob])
  | suppressed reason => exact (KeepsAboard.refl _).rises.of_eq (by simp [State.finishJob])

theorem Machine.State.rises_finishTaken (s : State) (m n : MemAnswer) :
    Rises s.accounts (s.finishTaken m n).accounts := by
  unfold State.finishTaken
  split
  · next a j _ =>
    unfold State.finishWhole
    dsimp only
    split
    · exact (s.rises_finishJob a .rmwRead m).of_eq (by simp)
    · exact s.rises_finishJob a _ m
  · exact (KeepsAboard.refl _).rises

theorem Machine.State.rises_endWork (s : State) (r : ResetAnswers) :
    Rises s.accounts (s.endWork r).accounts := by
  have taken (t : State) (e : t.accounts = s.accounts) (m n : MemAnswer) :
      Rises s.accounts (t.freePort.finishTaken m n).accounts := by
    simpa [e] using t.freePort.rises_finishTaken m n
  unfold State.endWork
  split
  · exact taken s rfl _ _
  · exact taken s rfl _ _
  · exact taken _ (by simp) _ _
  · exact taken s rfl _ _
  · exact taken _ (by simp) _ _

theorem Machine.State.rises_actReset (s : State) (r : ResetAnswers) :
    Rises s.accounts (s.actReset r).accounts := s.rises_endWork r

theorem Machine.State.rises_heldReset (s : State) (r : ResetAnswers) :
    Rises s.accounts (s.heldReset r).accounts := by
  unfold State.heldReset
  split
  · exact (s.rises_actReset r).of_eq (by simp)
  · exact (KeepsAboard.refl _).rises

theorem Machine.State.rises_assertReset (s : State) (r : ResetAnswers) :
    Rises s.accounts (s.assertReset r).accounts := by
  unfold State.assertReset
  split
  · exact s.rises_actReset r
  · exact (KeepsAboard.refl _).rises

/-- The verification of a CLOSED record frees its slot; that of an OPENED record leaves who is aboard
(R17, R28). -/
theorem Machine.State.rises_accountVerified {s : State} {a : List Entry} (h : s.accounts = a)
    (e : QEntry) (seq : Word) : Rises a (s.accountVerified e seq).accounts := by
  subst h
  unfold State.accountVerified
  split
  · exact (KeepsAboard.refl _).rises
  · next slot _ =>
    split
    · refine (KeepsAboard.set (.refl _) fun c hc => ⟨c, ?_, .refl c⟩).rises
      rw [Entry.withRecordSeq_consignment, State.account_consignment, hc]
    · exact (KeepsAboard.refl _).set_free slot
    · exact (KeepsAboard.refl _).rises

theorem Machine.State.rises_commit (s : State) (l : LogState) (ws : List Word) (chain : Half) :
    Rises s.accounts (s.commit l ws chain).accounts := by
  unfold State.commit
  split
  · exact (KeepsAboard.refl _).rises
  · dsimp only
    refine Rises.judgeNearFull (Rises.endLockout (State.rises_accountVerified ?_ _ _))
    exact State.removeFront_accounts { s with writer := _ }

theorem Machine.State.rises_readBack (s : State) (l : LogState) (ws : List Word) (chain : Half)
    (m : MemAnswer) : Rises s.accounts (s.readBack l ws chain m).accounts := by
  unfold State.readBack
  split
  · split
    · exact s.rises_commit l ws chain
    · exact (KeepsAboard.refl _).rises.of_eq (by simp)
  · exact (KeepsAboard.refl _).rises.of_eq (by simp)

/-- The clearing step leaves nobody aboard (R206). -/
theorem Machine.State.rises_coldStart (s : State) (a : List Entry) (o : ColdOutcome) :
    Rises a (s.coldStart o).accounts := by
  intro slot c d _ hd
  have hfree : (s.coldStart o).accounts = List.replicate 48 .free := rfl
  rw [hfree] at hd
  unfold consignmentAt at hd
  obtain ⟨e, he, hed⟩ := Option.bind_eq_some_iff.1 hd
  rw [List.eq_of_mem_replicate (List.mem_of_getElem? he)] at hed
  cases hed

/-- A power return keeps everyone aboard, so that a held reset may act behind it; behind the cold-start
path, in STARTING, a held reset goes on waiting (R203, R205). -/
theorem Machine.State.rises_wait (s : State) (w : WaitEnd) (r : ResetAnswers) :
    Rises s.accounts (((s.completeWait w).settlePorts s).heldReset r).accounts := by
  unfold State.completeWait
  split
  · have hreturn : KeepsAboard s.accounts
        (((s.startFromWait w).returnOrLose w.loss).settlePorts s).accounts :=
      (State.keepsAboard_returnOrLose (s.startFromWait w) w.loss).of_eq (by simp)
    exact hreturn.trans_rises (State.rises_heldReset _ r)
  · rw [State.heldReset_waits]
    · exact (State.rises_coldStart (s.startFromWait w) s.accounts s.unusableOutcome).of_eq (by simp)
    · simp [State.coldStart, State.clearingStep, State.clearTransients, PartState.takesReset]

/-! ### Every command -/

theorem Machine.Performs.rises {s u : State} (p : Performs s u) : Rises s.accounts u.accounts := by
  have same {v : State} (e : v.accounts = s.accounts) : Rises s.accounts v.accounts :=
    (KeepsAboard.refl _).rises.of_eq e
  cases p with
  | arrive a => exact same rfl
  | job a j m => exact s.freePort.rises_finishJob a j m
  | report r => exact s.rises_complete r
  | exportRead r w => simpa using (s.freePort.judgeExport r w).rises_releaseWaiting
  | timeOut => exact same (by simp)
  | loadRead copy w => exact (s.freePort.keepsAboard_loadWord copy w).rises
  | scanRead c w => exact (s.freePort.keepsAboard_scanWord c w).rises
  | takeEntry => exact same (by simp)
  | findSpace => exact same (by simp)
  | recordWrite l ws chain n m => exact same (by simp)
  | readBack l ws chain m => exact s.freePort.rises_readBack l ws chain m
  | beginRewrite => exact same (by simp)
  | statusWrite picture n m => exact same (by simp)
  | staging slot => exact (s.keepsAboard_expireStaging slot).rises
  | gap slot => exact (s.keepsAboard_expireGap slot).rises
  | machine k n f => exact same (by simp)
  | cadence => exact same (by simp)
  | loseMain b => exact same (by simp [State.loseMain])
  | loseBackup => exact same (by simp)
  | mainReturn => exact same rfl
  | assertReset r => exact s.rises_assertReset r
  | releaseReset => exact s.keepsAboard_releaseReset.rises
  | advance => exact s.keepsAboard_advanceClock.rises

theorem Machine.Ends.rises {s t : State} (e : Ends s t) : Rises s.accounts t.accounts := by
  cases e with
  | idle => exact (KeepsAboard.refl _).rises
  | settled p => exact p.rises.of_eq (by simp)
  | ports p => exact p.rises.of_eq (by simp)
  | load copy w r =>
    have hload : KeepsAboard s.accounts ((s.freePort.loadWord copy w).settlePorts s).accounts :=
      (s.freePort.keepsAboard_loadWord copy w).of_eq (by simp)
    exact hload.trans_rises (State.rises_heldReset _ r)
  | wait w r => exact s.rises_wait w r

/-- Settles O5: every way in which a command can end only raises the verdicts of those who stay aboard. -/
theorem verdictOnlyRises : Obligations.VerdictOnlyRises := by
  intro i s t slot e f c d h he hf hc hd
  exact (ends_of_exec h).rises slot c d ((consignmentAt_of_getElem? he).trans hc)
    ((consignmentAt_of_getElem? hf).trans hd)

end Sys2Proof
end

section
/-! Reports of the account table at their handler: their words and encoding checks (R105, R213, R214), what a
taken or refused report leaves (R106 to R108), and the checks of R10 in their order. -/

namespace Sys2Proof

open Machine

/-! ### The words of a report that names a consignment -/

/-- A report whose body begins with a consignment reference (R214). -/
def referenceReport (kind : ReportKind) (seq : Half) (rsv : BitVec 7) (reference : BitVec 64)
    (rest : List Word) : Report :=
  { seq := seq, kind := kind, rsv := rsv, body := referenceBody reference ++ rest }

section
variable (kind : ReportKind) (seq : Half) (rsv : BitVec 7) (reference : BitVec 64) (s : State)

theorem exec_load (placement : Word) : exec (.load seq rsv reference placement) s =
    .next (s.reportArrives (referenceReport .load seq rsv reference [placement])) := rfl

theorem exec_move (target : Word) : exec (.move seq rsv reference target) s =
    .next (s.reportArrives (referenceReport .move seq rsv reference [target])) := rfl

theorem exec_withdraw : exec (.withdraw seq rsv reference) s =
    .next (s.reportArrives (referenceReport .withdraw seq rsv reference [])) := rfl

theorem exec_handover (receiver : Option Word) : exec (.handover seq rsv reference receiver) s =
    .next (s.reportArrives (referenceReport .handover seq rsv reference receiver.toList)) := rfl

theorem exec_query : exec (.query seq rsv reference) s =
    .next (s.reportArrives (referenceReport .query seq rsv reference [])) := rfl

@[simp] theorem referenceReport_seq (rest : List Word) :
    (referenceReport kind seq rsv reference rest).seq = seq := rfl

@[simp] theorem referenceReport_reference (rest : List Word) :
    (referenceReport kind seq rsv reference rest).reference = reference := by
  change reference.extractLsb' 32 32 ++ reference.extractLsb' 0 32 = reference
  refine BitVec.eq_of_getLsbD_eq fun i hi => ?_
  rw [BitVec.getLsbD_append]
  split
  · next h => simp [h]
  · next h => simp [show i - 32 < 32 by omega, show 32 + (i - 32) = i by omega]

@[simp] theorem referenceReport_compartment (w : Word) :
    (referenceReport kind seq rsv reference [w]).compartment = bits w 15 8 := rfl

@[simp] theorem referenceReport_band (w : Word) :
    (referenceReport kind seq rsv reference [w]).band = bits w 7 0 := rfl

@[simp] theorem referenceReport_receiver (w : Option Word) :
    (referenceReport kind seq rsv reference w.toList).receiver = w := by
  cases w <;> rfl

/-! ### Their encoding checks (R105) -/

theorem encodingOk_load (cfg : Setup) (w : Word) :
    encodingOk cfg (referenceReport .load seq rsv reference [w]) = true ↔
      rsv = 0 ∧ bits w 31 16 = 0 ∧ bits w 15 8 ≤ 3 ∧ bits w 7 0 ≤ 7 := by
  change (rsv == 0 && (decide (bits w 15 8 ≤ 3) && decide (bits w 7 0 ≤ 7) && bits w 31 16 == 0)) = true
    ↔ _
  simp only [Bool.and_eq_true, beq_iff_eq, decide_eq_true_eq]
  tauto

theorem encodingOk_move (cfg : Setup) (w : Word) :
    encodingOk cfg (referenceReport .move seq rsv reference [w]) = true ↔
      rsv = 0 ∧ bits w 31 16 = 0 ∧ bits w 7 0 = 0 ∧ bits w 15 8 ≤ 3 := by
  change (rsv == 0 && (decide (bits w 15 8 ≤ 3) && bits w 31 16 == 0 && bits w 7 0 == 0)) = true ↔ _
  simp only [Bool.and_eq_true, beq_iff_eq, decide_eq_true_eq]
  tauto

/-- The kinds whose encoding has no check but that of the header's reserved bits. -/
theorem encodingOk_headerOnly (cfg : Setup) (rest : List Word)
    (h : kind = .withdraw ∨ kind = .handover ∨ kind = .query) :
    encodingOk cfg (referenceReport kind seq rsv reference rest) = true ↔ rsv = 0 := by
  rcases h with rfl | rfl | rfl <;>
    · change (rsv == 0 && true) = true ↔ _
      simp

end

/-! ### Refused and taken reports -/

/-- A report that fails its encoding checks is refused BAD_FIELD (R105). -/
theorem Machine.State.arrives_badField {s : State} (h : Safety.AtHandler s) {r : Report}
    (he : ¬ encodingOk s.cfg r = true) :
    s.reportArrives r = State.settle (Safety.refused s r.seq .badField) s := by
  rw [State.reportArrives_badField h (by simpa using he), State.refuse_eq]

/-- A well-encoded report that its handler refuses (R105, R106). -/
theorem Machine.State.arrives_refused {s : State} (h : Safety.AtHandler s) {r : Report}
    {reason : ReportRefusal} (he : encodingOk s.cfg r = true) (hr : s.handle r = s.refuse r.seq reason) :
    s.reportArrives r = State.settle (Safety.refused s r.seq reason) s := by
  rw [State.reportArrives_handle h he, hr, State.refuse_eq]

/-- A record joins a queue that has room (R117). -/
theorem Machine.State.produce_room {s t : State} (hq : t.queue = s.queue)
    (h : s.queue.entries.length < 16) (q : QEntry) :
    t.produce q = { t with queue := Safety.queued s [q] } := by
  unfold State.produce
  rw [hq, if_pos h]
  rfl

/-- A further record joins behind those queued before it (R117). -/
theorem Machine.State.produce_queued {s t : State} {records : List QEntry}
    (hq : t.queue = Safety.queued s records) (h : s.queue.entries.length + records.length < 16)
    (q : QEntry) : t.produce q = { t with queue := Safety.queued s (records ++ [q]) } := by
  unfold State.produce
  rw [if_pos (by simpa [hq, Safety.queued] using h), hq]
  simp [Safety.queued]

/-- The receipt of a report that queued records (R107, R108). -/
theorem Machine.State.take_queued {s t : State} {records : List QEntry} (hr : t.receipt = s.receipt)
    (hq : t.queue = Safety.queued s records) (hn : records ≠ []) (seq : Half) :
    t.take seq = { t with receipt := Safety.takenReceipt s seq records.length } := by
  have hne : t.queue.entries ≠ [] := by simp [hq, Safety.queued, hn]
  have hl : t.queue.entries.length = s.queue.entries.length + records.length := by
    simp [hq, Safety.queued]
  simp only [State.take, if_neg hne, hl, hr, Safety.takenReceipt]

/-- The receipt of a report that queued no record (R107, R108). -/
theorem Machine.State.take_nothingQueued {s t : State} (hr : t.receipt = s.receipt)
    (hq : t.queue = s.queue) (seq : Half) :
    t.take seq = { t with receipt := Safety.takenNothingQueued s seq } := by
  simp only [State.take, Safety.takenNothingQueued, Safety.takenReceipt, hr, hq, Nat.add_zero]

/-- A well-encoded report that its handler takes with records queued: only the receipt is still to come
(R105, R107, R108). -/
theorem Machine.State.arrives_taken {s t : State} (h : Safety.AtHandler s) {r : Report}
    {records : List QEntry} (he : encodingOk s.cfg r = true) (ht : s.handle r = t.take r.seq)
    (hr : t.receipt = s.receipt) (hq : t.queue = Safety.queued s records) (hn : records ≠ []) :
    s.reportArrives r =
      State.settle { t with receipt := Safety.takenReceipt s r.seq records.length } s := by
  rw [State.reportArrives_handle h he, ht, State.take_queued hr hq hn]

/-- The same with no record queued. -/
theorem Machine.State.arrives_takenNothing {s t : State} (h : Safety.AtHandler s) {r : Report}
    (he : encodingOk s.cfg r = true) (ht : s.handle r = t.take r.seq)
    (hr : t.receipt = s.receipt) (hq : t.queue = s.queue) :
    s.reportArrives r = State.settle { t with receipt := Safety.takenNothingQueued s r.seq } s := by
  rw [State.reportArrives_handle h he, ht, State.take_nothingQueued hr hq]

/-! ### Where a reference is found -/

section
variable {s : State} {reference : BitVec 64} {slot : Nat} {e : Entry}

theorem findReference_of_aboardAt (h : Safety.aboardAt s reference slot e) :
    findReference s.accounts reference = some slot := (findReference_eq_some_iff h.1).2 h

theorem account_of_aboardAt (h : Safety.aboardAt s reference slot e) : s.account slot = e :=
  State.account_of_getElem? h.1

theorem reference_of_aboardAt (h : Safety.aboardAt s reference slot e) {c : Consignment}
    (hc : e.consignment = some c) : c.reference = reference := by
  obtain ⟨-, ⟨x, hx, hr⟩, -⟩ := h
  obtain rfl : x = c := by rw [hc] at hx; injection hx with hx; exact hx.symm
  exact hr

end

/-! ### The checks of a LOAD, in the order of R10 -/

section
variable {s : State} {r : Report}

/-- Check 1 of R10 for a LOAD: a compartment of the setup and an enabled band class. -/
def LoadPlaced (s : State) (r : Report) : Prop :=
  r.compartment < s.cfg.count ∧ (s.cfg.band r.band).enabled = true

theorem checkLoad_notPlaced (h : ¬ LoadPlaced s r) : s.checkLoad r = .error .badField := by
  refine if_pos ?_
  rw [LoadPlaced, Classical.not_and_iff_not_or_not] at h
  simpa using h

theorem checkLoad_noStop (h : LoadPlaced s r) (hs : s.stop = none) :
    s.checkLoad r = .error .wrongState := by
  obtain ⟨hc, hb⟩ := h
  simp [State.checkLoad, hc, hb, hs]

theorem checkLoad_duplicate (h : LoadPlaced s r) (hs : s.stop ≠ none)
    (ha : ¬ Safety.notAboard s r.reference) : s.checkLoad r = .error .duplicate := by
  obtain ⟨hc, hb⟩ := h
  rw [← findReference_eq_none_iff] at ha
  simp [State.checkLoad, hc, hb, hs, Option.isSome_iff_ne_none.2 ha]

theorem lowestFree_eq_none_iff {accounts : List Entry} :
    lowestFree accounts = none ↔ Entry.free ∉ accounts := by
  unfold lowestFree
  rw [List.findIdx?_eq_none_iff]
  constructor
  · intro h hf; simpa using h _ hf
  · intro h e he
    simp only [beq_eq_false_iff_ne]
    rintro rfl
    exact h he

theorem checkLoad_tableFull (h : LoadPlaced s r) (hs : s.stop ≠ none)
    (ha : Safety.notAboard s r.reference) (hf : Entry.free ∉ s.accounts) :
    s.checkLoad r = .error .tableFull := by
  obtain ⟨hc, hb⟩ := h
  rw [← findReference_eq_none_iff] at ha
  simp [State.checkLoad, hc, hb, hs, ha, lowestFree_eq_none_iff.2 hf]

/-- Only the room of the queue is left to check (R4, R11). -/
theorem checkLoad_lowestFree (h : LoadPlaced s r) (hs : s.stop ≠ none)
    (ha : Safety.notAboard s r.reference) {slot : Nat} (hf : lowestFree s.accounts = some slot) :
    s.checkLoad r = if s.room < 1 then .error .queueFull else .ok slot := by
  obtain ⟨hc, hb⟩ := h
  rw [← findReference_eq_none_iff] at ha
  simp [State.checkLoad, hc, hb, hs, ha, hf]

/-! ### The checks of a MOVE, in the order of R10 -/

theorem moveField_notAboard (h : r.compartment < s.cfg.count) (ha : Safety.notAboard s r.reference) :
    s.moveField r = true := by
  simp [State.moveField, h, findReference_eq_none_iff.2 ha]

theorem moveField_aboard {slot : Nat} {e : Entry} {c : Consignment}
    (ha : Safety.aboardAt s r.reference slot e) (hc : e.consignment = some c) :
    s.moveField r = true ↔ r.compartment < s.cfg.count ∧ c.compartment ≠ r.compartment := by
  simp [State.moveField, findReference_of_aboardAt ha, account_of_aboardAt ha, Entry.compartment, hc]

theorem checkMove_badField (h : ¬ s.moveField r = true) : s.checkMove r = .error .badField :=
  if_pos (by simpa using h)

theorem checkMove_noStop (h : s.moveField r = true) (hs : s.stop = none) :
    s.checkMove r = .error .wrongState := by
  simp [State.checkMove, h, hs]

theorem checkMove_notAboard (h : s.moveField r = true) (hs : s.stop ≠ none)
    (ha : Safety.notAboard s r.reference) : s.checkMove r = .error .unknownConsignment := by
  simp [State.checkMove, h, hs, findReference_eq_none_iff.2 ha]

section
variable {slot : Nat} {c : Consignment}

theorem checkMove_closing {o : Option Opening} {t : Totals} (h : s.moveField r = true)
    (hs : s.stop ≠ none) (ha : Safety.aboardAt s r.reference slot (.closing c o t)) :
    s.checkMove r = .error .wrongState := by
  simp [State.checkMove, h, hs, findReference_of_aboardAt ha, account_of_aboardAt ha]

theorem checkMove_present {e : Entry} (h : s.moveField r = true) (hs : s.stop ≠ none)
    (ha : Safety.aboardAt s r.reference slot e) (hc : e.consignment = some c)
    (he : ∀ o t, e ≠ .closing c o t) :
    s.checkMove r = if s.room < 1 then .error .queueFull else .ok (slot, c) := by
  cases e with
  | free => cases hc
  | staged x d =>
    obtain rfl : x = c := Option.some.inj hc
    simp [State.checkMove, h, hs, findReference_of_aboardAt ha, account_of_aboardAt ha]
  | tracked x t =>
    obtain rfl : x = c := Option.some.inj hc
    simp [State.checkMove, h, hs, findReference_of_aboardAt ha, account_of_aboardAt ha]
  | closing x o t =>
    obtain rfl : x = c := Option.some.inj hc
    exact absurd rfl (he o t)

/-! ### The checks of a WITHDRAW and of a HANDOVER, in the order of R10 -/

theorem checkWithdraw_notAboard (ha : Safety.notAboard s r.reference) :
    s.checkWithdraw r = .error .unknownConsignment := by
  simp [State.checkWithdraw, findReference_eq_none_iff.2 ha]

theorem checkWithdraw_staged {d : Nat} (ha : Safety.aboardAt s r.reference slot (.staged c d)) :
    s.checkWithdraw r = if s.room < 1 then .error .queueFull else .ok slot := by
  simp [State.checkWithdraw, findReference_of_aboardAt ha, account_of_aboardAt ha]

theorem checkWithdraw_notStaged {e : Entry} (ha : Safety.aboardAt s r.reference slot e)
    (hc : e.consignment = some c) (he : ∀ d, e ≠ .staged c d) :
    s.checkWithdraw r = .error .wrongState := by
  cases e with
  | free => cases hc
  | staged x d =>
    obtain rfl : x = c := Option.some.inj hc
    exact absurd rfl (he d)
  | tracked x t => simp [State.checkWithdraw, findReference_of_aboardAt ha, account_of_aboardAt ha]
  | closing x o t => simp [State.checkWithdraw, findReference_of_aboardAt ha, account_of_aboardAt ha]

theorem checkHandover_noStop (hs : s.stop = none) : s.checkHandover r = .error .wrongState := by
  simp [State.checkHandover, hs]

theorem checkHandover_notAboard (hs : s.stop ≠ none) (ha : Safety.notAboard s r.reference) :
    s.checkHandover r = .error .unknownConsignment := by
  simp [State.checkHandover, hs, findReference_eq_none_iff.2 ha]

theorem checkHandover_closing {o : Option Opening} {t : Totals} (hs : s.stop ≠ none)
    (ha : Safety.aboardAt s r.reference slot (.closing c o t)) :
    s.checkHandover r = .error .wrongState := by
  simp [State.checkHandover, hs, findReference_of_aboardAt ha, account_of_aboardAt ha]

theorem checkHandover_staged {d : Nat} (hs : s.stop ≠ none)
    (ha : Safety.aboardAt s r.reference slot (.staged c d)) :
    s.checkHandover r = if s.room < 1 then .error .queueFull else .ok slot := by
  simp [State.checkHandover, hs, findReference_of_aboardAt ha, account_of_aboardAt ha]

theorem checkHandover_tracked {t : Tracking} (hs : s.stop ≠ none)
    (ha : Safety.aboardAt s r.reference slot (.tracked c t)) :
    s.checkHandover r = if s.room < t.handoverRecords then .error .queueFull else .ok slot := by
  simp [State.checkHandover, hs, findReference_of_aboardAt ha, account_of_aboardAt ha]

end

end

/-! ### A handler whose check fails refuses with the check's reason -/

section
variable {s : State} {r : Report} {reason : ReportRefusal}

theorem handleLoad_error (h : s.checkLoad r = .error reason) :
    s.handleLoad r = s.refuse r.seq reason := by
  simp [State.handleLoad, h]

theorem handleMove_error (h : s.checkMove r = .error reason) :
    s.handleMove r = s.refuse r.seq reason := by
  simp [State.handleMove, h]

theorem handleWithdraw_error (h : s.checkWithdraw r = .error reason) :
    s.handleWithdraw r = s.refuse r.seq reason := by
  simp [State.handleWithdraw, h]

theorem handleHandover_error (h : s.checkHandover r = .error reason) :
    s.handleHandover r = s.refuse r.seq reason := by
  simp [State.handleHandover, h]

end

/-! ### The refusals by command (R10, R105) -/

section
variable {s : State} {seq : Half} {reference : BitVec 64} {reason : ReportRefusal}

/-- The refusal of a command: the step leaves the receipt, the counter and the cause of a refused report. -/
def Refuses (s : State) (i : Instr) (seq : Half) (reason : ReportRefusal) : Prop :=
  exec i s = .next (State.settle (Safety.refused s seq reason) s)

theorem load_refused {w : Word} (h : Safety.AtHandler s)
    (he : bits w 31 16 = 0 ∧ bits w 15 8 ≤ 3 ∧ bits w 7 0 ≤ 7)
    (hr : s.checkLoad (referenceReport .load seq 0 reference [w]) = .error reason) :
    Refuses s (.load seq 0 reference w) seq reason := by
  rw [Refuses, exec_load, State.arrives_refused h ((encodingOk_load ..).2 ⟨rfl, he⟩)
    (handleLoad_error hr)]
  rfl

theorem move_refused {w : Word} (h : Safety.AtHandler s)
    (he : bits w 31 16 = 0 ∧ bits w 7 0 = 0 ∧ bits w 15 8 ≤ 3)
    (hr : s.checkMove (referenceReport .move seq 0 reference [w]) = .error reason) :
    Refuses s (.move seq 0 reference w) seq reason := by
  rw [Refuses, exec_move, State.arrives_refused h ((encodingOk_move ..).2 ⟨rfl, he⟩)
    (handleMove_error hr)]
  rfl

theorem withdraw_refused (h : Safety.AtHandler s)
    (hr : s.checkWithdraw (referenceReport .withdraw seq 0 reference []) = .error reason) :
    Refuses s (.withdraw seq 0 reference) seq reason := by
  rw [Refuses, exec_withdraw, State.arrives_refused h
    ((encodingOk_headerOnly _ _ _ _ _ _ (.inl rfl)).2 rfl) (handleWithdraw_error hr)]
  rfl

theorem handover_refused {w : Option Word} (h : Safety.AtHandler s)
    (hr : s.checkHandover (referenceReport .handover seq 0 reference w.toList) = .error reason) :
    Refuses s (.handover seq 0 reference w) seq reason := by
  rw [Refuses, exec_handover, State.arrives_refused h
    ((encodingOk_headerOnly _ _ _ _ _ _ (.inr (.inl rfl))).2 rfl) (handleHandover_error hr)]
  rfl

end

end Sys2Proof
end

section
/-! The manifest reports and the QUERY: refused in the order of R10, or taken (R12, R20, R24 to R27, R114). -/

namespace Sys2Proof

open Machine

/-! ### Room of the queue (R11, R115) -/

theorem room_lt_one {s : State} (h : 16 ≤ s.queue.entries.length) : s.room < 1 := by
  unfold State.room; omega

theorem room_lt_two {s : State} (h : 15 ≤ s.queue.entries.length) : s.room < 2 := by
  unfold State.room; omega

theorem not_room_lt_one {s : State} (h : s.queue.entries.length < 16) : ¬ s.room < 1 := by
  unfold State.room; omega

theorem not_room_lt_two {s : State} (h : s.queue.entries.length < 15) : ¬ s.room < 2 := by
  unfold State.room; omega

theorem handoverRecords_calm {t : Tracking} (h : t.excursion = none) : t.handoverRecords = 1 := by
  simp [Tracking.handoverRecords, h]

theorem handoverRecords_excursion {t : Tracking} (h : t.excursion ≠ none) :
    t.handoverRecords = 2 := by
  simp [Tracking.handoverRecords, Option.isSome_iff_ne_none.2 h]

/-! ### The refusals, kind by kind -/

section
variable {s : State} {seq : Half} {reference : BitVec 64}

/-- Check 1 of R10 for a LOAD command, on its placement word. -/
theorem loadPlaced_iff {rsv : BitVec 7} {w : Word} :
    LoadPlaced s (referenceReport .load seq rsv reference [w]) ↔
      bits w 15 8 < s.cfg.count ∧ (s.cfg.band (bits w 7 0)).enabled = true := Iff.rfl

/-- The refusals of a LOAD (R10, R105). -/
theorem load_refusals (rsv : BitVec 7) (w : Word) (h : Safety.AtHandler s) :
    let encoded := rsv = 0 ∧ bits w 31 16 = 0 ∧ bits w 15 8 ≤ 3 ∧ bits w 7 0 ≤ 7
    let placed := bits w 15 8 < s.cfg.count ∧ (s.cfg.band (bits w 7 0)).enabled = true
    let refusal := Refuses s (.load seq rsv reference w) seq
    (¬(encoded ∧ placed) → refusal .badField) ∧
    (encoded → placed → s.stop = none → refusal .wrongState) ∧
    (encoded → placed → s.stop ≠ none → ¬Safety.notAboard s reference → refusal .duplicate) ∧
    (encoded → placed → s.stop ≠ none → Safety.notAboard s reference → .free ∉ s.accounts →
      refusal .tableFull) ∧
    (encoded → placed → s.stop ≠ none → Safety.notAboard s reference → .free ∈ s.accounts →
      16 ≤ s.queue.entries.length → refusal .queueFull) := by
  refine ⟨fun hn => ?_, ?_, ?_, ?_, ?_⟩
  · by_cases he : encodingOk s.cfg (referenceReport .load seq rsv reference [w]) = true
    · obtain ⟨rfl, hw⟩ := (encodingOk_load ..).1 he
      exact load_refused h hw (checkLoad_notPlaced fun hp => hn ⟨⟨rfl, hw⟩, loadPlaced_iff.1 hp⟩)
    · exact congrArg Host.Outcome.next (State.arrives_badField h he)
  · rintro ⟨rfl, hw⟩ hp hs
    exact load_refused h hw (checkLoad_noStop (loadPlaced_iff.2 hp) hs)
  · rintro ⟨rfl, hw⟩ hp hs ha
    exact load_refused h hw (checkLoad_duplicate (loadPlaced_iff.2 hp) hs (by simpa using ha))
  · rintro ⟨rfl, hw⟩ hp hs ha hf
    exact load_refused h hw (checkLoad_tableFull (loadPlaced_iff.2 hp) hs (by simpa using ha) hf)
  · rintro ⟨rfl, hw⟩ hp hs ha hf hq
    obtain ⟨slot, hslot⟩ := Option.ne_none_iff_exists'.1 (mt lowestFree_eq_none_iff.1 (not_not_intro hf))
    refine load_refused h hw ?_
    rw [checkLoad_lowestFree (loadPlaced_iff.2 hp) hs (by simpa using ha) hslot,
      if_pos (room_lt_one hq)]

/-- The refusals of a MOVE (R10, R105). -/
theorem move_refusals (rsv : BitVec 7) (w : Word) {slot : Nat} {e : Entry} {c : Consignment}
    (h : Safety.AtHandler s) :
    let refusal := Refuses s (.move seq 0 reference w) seq
    let encoded := bits w 31 16 = 0 ∧ bits w 7 0 = 0 ∧ bits w 15 8 ≤ 3
    let fits := encoded ∧ bits w 15 8 < s.cfg.count
    let aboard := Safety.aboardAt s reference slot e ∧ e.consignment = some c
    let placed := fits ∧ aboard ∧ c.compartment ≠ bits w 15 8
    let closing := ∃ o t, e = .closing c o t
    (rsv ≠ 0 ∨ ¬encoded → Refuses s (.move seq rsv reference w) seq .badField) ∧
    (encoded → s.cfg.count ≤ bits w 15 8 → refusal .badField) ∧
    (encoded → aboard → c.compartment = bits w 15 8 → refusal .badField) ∧
    (fits → Safety.notAboard s reference → s.stop = none → refusal .wrongState) ∧
    (placed → s.stop = none → refusal .wrongState) ∧
    (fits → Safety.notAboard s reference → s.stop ≠ none → refusal .unknownConsignment) ∧
    (placed → s.stop ≠ none → closing → refusal .wrongState) ∧
    (placed → s.stop ≠ none → ¬closing → 16 ≤ s.queue.entries.length → refusal .queueFull) := by
  have unfit (hc : ¬ bits w 15 8 < s.cfg.count) :
      ¬ s.moveField (referenceReport .move seq 0 reference [w]) = true := by
    simp [State.moveField, hc]
  have field (hc : bits w 15 8 < s.cfg.count) (ha : Safety.notAboard s reference) :
      s.moveField (referenceReport .move seq 0 reference [w]) = true :=
    moveField_notAboard hc (by simpa using ha)
  have fieldAt (ha : Safety.aboardAt s reference slot e) (hc : e.consignment = some c) :
      s.moveField (referenceReport .move seq 0 reference [w]) = true ↔
        bits w 15 8 < s.cfg.count ∧ c.compartment ≠ bits w 15 8 :=
    moveField_aboard (r := referenceReport .move seq 0 reference [w]) (by simpa using ha) hc
  refine ⟨fun hn => ?_, fun hw hc => ?_, fun hw ha hc => ?_, fun hf ha hs => ?_, fun hp hs => ?_,
    fun hf ha hs => ?_, fun hp hs hcl => ?_, fun hp hs hcl hq => ?_⟩
  · refine congrArg Host.Outcome.next (State.arrives_badField h fun he => ?_)
    obtain ⟨hr, hw⟩ := (encodingOk_move ..).1 he
    exact hn.elim (· hr) (· hw)
  · exact move_refused h hw (checkMove_badField (unfit (by omega)))
  · exact move_refused h hw (checkMove_badField fun hm => ((fieldAt ha.1 ha.2).1 hm).2 hc)
  · exact move_refused h hf.1 (checkMove_noStop (field hf.2 ha) hs)
  · obtain ⟨hf, ⟨ha, hc⟩, hne⟩ := hp
    exact move_refused h hf.1 (checkMove_noStop ((fieldAt ha hc).2 ⟨hf.2, hne⟩) hs)
  · exact move_refused h hf.1 (checkMove_notAboard (field hf.2 ha) hs (by simpa using ha))
  · obtain ⟨hf, ⟨ha, hc⟩, hne⟩ := hp
    have hm := (fieldAt ha hc).2 ⟨hf.2, hne⟩
    obtain ⟨o, t, rfl⟩ := hcl
    exact move_refused h hf.1 (checkMove_closing hm hs (by simpa using ha))
  · obtain ⟨hf, ⟨ha, hc⟩, hne⟩ := hp
    refine move_refused h hf.1 ?_
    rw [checkMove_present ((fieldAt ha hc).2 ⟨hf.2, hne⟩) hs (by simpa using ha) hc
      (fun o t he => hcl ⟨o, t, he⟩),
      if_pos (room_lt_one hq)]

/-- The refusals of a WITHDRAW (R10, R105). -/
theorem withdraw_refusals (rsv : BitVec 7) {slot : Nat} {e : Entry} {c : Consignment}
    (h : Safety.AtHandler s) :
    let refusal := Refuses s (.withdraw seq 0 reference) seq
    let aboard := Safety.aboardAt s reference slot e ∧ e.consignment = some c
    (rsv ≠ 0 → Refuses s (.withdraw seq rsv reference) seq .badField) ∧
    (Safety.notAboard s reference → refusal .unknownConsignment) ∧
    (aboard → (∀ d, e ≠ .staged c d) → refusal .wrongState) ∧
    (aboard → (∃ d, e = .staged c d) → 16 ≤ s.queue.entries.length → refusal .queueFull) := by
  refine ⟨fun hr => ?_, fun ha => ?_, fun ha hn => ?_, fun ha hd hq => ?_⟩
  · exact congrArg Host.Outcome.next (State.arrives_badField h
      (mt (encodingOk_headerOnly _ _ _ _ _ _ (.inl rfl)).1 hr))
  · exact withdraw_refused h (checkWithdraw_notAboard (by simpa using ha))
  · exact withdraw_refused h (checkWithdraw_notStaged (by simpa using ha.1) ha.2 hn)
  · obtain ⟨d, rfl⟩ := hd
    refine withdraw_refused h ?_
    rw [checkWithdraw_staged (by simpa using ha.1), if_pos (room_lt_one hq)]

/-- The refusals of a HANDOVER (R10, R11, R105). -/
theorem handover_refusals (rsv : BitVec 7) (w : Option Word) {slot : Nat} {e : Entry} {c : Consignment}
    (h : Safety.AtHandler s) :
    let refusal := Refuses s (.handover seq 0 reference w) seq
    let aboard := Safety.aboardAt s reference slot e ∧ e.consignment = some c
    (rsv ≠ 0 → Refuses s (.handover seq rsv reference w) seq .badField) ∧
    (s.stop = none → refusal .wrongState) ∧
    (s.stop ≠ none → Safety.notAboard s reference → refusal .unknownConsignment) ∧
    (aboard → (∃ o t, e = .closing c o t) → s.stop ≠ none → refusal .wrongState) ∧
    (aboard → (∃ d, e = .staged c d) ∨ (∃ t, e = .tracked c t ∧ t.excursion = none) →
      s.stop ≠ none → 16 ≤ s.queue.entries.length → refusal .queueFull) ∧
    (aboard → (∃ t, e = .tracked c t ∧ t.excursion ≠ none) →
      s.stop ≠ none → 15 ≤ s.queue.entries.length → refusal .queueFull) := by
  refine ⟨fun hr => ?_, fun hs => ?_, fun hs ha => ?_, fun ha hcl hs => ?_, fun ha hd hs hq => ?_,
    fun ha hd hs hq => ?_⟩
  · exact congrArg Host.Outcome.next (State.arrives_badField h
      (mt (encodingOk_headerOnly _ _ _ _ _ _ (.inr (.inl rfl))).1 hr))
  · exact handover_refused h (checkHandover_noStop hs)
  · exact handover_refused h (checkHandover_notAboard hs (by simpa using ha))
  · obtain ⟨o, t, rfl⟩ := hcl
    exact handover_refused h (checkHandover_closing hs (by simpa using ha.1))
  · refine handover_refused h ?_
    rcases hd with ⟨d, rfl⟩ | ⟨t, rfl, hx⟩
    · rw [checkHandover_staged hs (by simpa using ha.1), if_pos (room_lt_one hq)]
    · rw [checkHandover_tracked hs (by simpa using ha.1), handoverRecords_calm hx,
        if_pos (room_lt_one hq)]
  · obtain ⟨t, rfl, hx⟩ := hd
    refine handover_refused h ?_
    rw [checkHandover_tracked hs (by simpa using ha.1), handoverRecords_excursion hx,
      if_pos (room_lt_two hq)]

end

/-- Settles O9: the refusals of the four kinds of manifest report, each in the order of its checks. -/
theorem manifestRefusals : Obligations.ManifestRefusals := by
  refine ⟨fun s seq rsv reference placement h => load_refusals rsv placement h, ?_⟩
  intro s seq rsv reference target receiver slot e c h
  obtain ⟨m1, m2, m3, m4, m5, m6, m7, m8⟩ := move_refusals (slot := slot) (e := e) (c := c)
    (seq := seq) (reference := reference) rsv target h
  obtain ⟨w1, w2, w3, w4⟩ := withdraw_refusals (slot := slot) (e := e) (c := c)
    (seq := seq) (reference := reference) rsv h
  obtain ⟨h1, h2, h3, h4, h5, h6⟩ := handover_refusals (slot := slot) (e := e) (c := c)
    (seq := seq) (reference := reference) rsv receiver h
  exact ⟨m1, fun hr => ⟨w1 hr, h1 hr⟩, m2, m3, m4, m5, m6, m7, m8, w2, w3, w4, h2, h3, h4, h5, h6⟩

theorem Machine.State.judgeUnitOff_receipt (s : State) : s.judgeUnitOff.receipt = s.receipt := by simp

theorem Machine.State.judgeUnitOff_queue (s : State) : s.judgeUnitOff.queue = s.queue := by simp

/-! ### What a handler whose checks pass leaves before its receipt -/

section
variable {s : State} {seq : Half} {reference : BitVec 64} {slot : Nat} {c : Consignment}

theorem handle_load_taken {w : Word}
    (h : s.checkLoad (referenceReport .load seq 0 reference [w]) = .ok slot)
    (hq : s.queue.entries.length < 16) :
    s.handle (referenceReport .load seq 0 reference [w]) = State.take { s with
      accounts := s.accounts.set slot (.staged
        { reference := reference, compartment := bits w 15 8, band := bits w 7 0, verdict := .clean }
        (satAdd s.now s.cfg.stagingLimit))
      queue := Safety.queued s [
        { time := s.now, slot := some slot
          body := .loaded reference slot (bits w 15 8) (bits w 7 0) seq }] } seq := by
  change s.handleLoad _ = _
  rw [State.handleLoad, h]
  dsimp only
  rw [State.produce_room (s := s) (t := s.setAccount slot _) rfl hq]
  simp only [loadedConsignment, loadedRecord, referenceReport_reference, referenceReport_compartment,
    referenceReport_band, referenceReport_seq]
  rfl

theorem handle_move_taken {w : Word} {e : Entry}
    (h : s.checkMove (referenceReport .move seq 0 reference [w]) = .ok (slot, c))
    (ha : s.account slot = e) (hr : c.reference = reference) (hq : s.queue.entries.length < 16) :
    s.handle (referenceReport .move seq 0 reference [w]) = State.take (State.judgeUnitOff { s with
      accounts := s.accounts.set slot (e.mapConsignment (fun x => { x with compartment := bits w 15 8 }))
      queue := Safety.queued s [
        { time := s.now, slot := some slot
          body := .moved reference c.compartment (bits w 15 8) }] }) seq := by
  change s.handleMove _ = _
  rw [State.handleMove, h]
  dsimp only
  rw [State.produce_room (s := s) (t := s.setAccount slot _) rfl hq, ha]
  simp only [movedRecord, hr, referenceReport_compartment, referenceReport_seq]
  rfl

theorem handle_withdraw_taken
    (h : s.checkWithdraw (referenceReport .withdraw seq 0 reference []) = .ok slot)
    (hq : s.queue.entries.length < 16) :
    s.handle (referenceReport .withdraw seq 0 reference []) = State.take { s with
      accounts := s.accounts.set slot .free
      queue := Safety.queued s [
        { time := s.now, slot := some slot, body := .withdrawn reference }] } seq := by
  change s.handleWithdraw _ = _
  rw [State.handleWithdraw, h]
  dsimp only
  rw [State.produce_room (s := s) (t := s.setAccount slot _) rfl hq]
  simp only [withdrawnRecord, referenceReport_reference, referenceReport_seq]
  rfl

theorem handle_handover_tracked {w : Option Word} {t : Tracking}
    (h : s.checkHandover (referenceReport .handover seq 0 reference w.toList) = .ok slot)
    (ha : s.account slot = .tracked c t) :
    s.handle (referenceReport .handover seq 0 reference w.toList) =
      (s.closeTracked slot c t w).take seq := by
  change s.handleHandover _ = _
  simp only [State.handleHandover, h, ha, referenceReport_receiver, referenceReport_seq]

theorem handle_handover_staged {w : Option Word} {d : Nat}
    (h : s.checkHandover (referenceReport .handover seq 0 reference w.toList) = .ok slot)
    (ha : s.account slot = .staged c d) :
    s.handle (referenceReport .handover seq 0 reference w.toList) =
      (s.closeStaged slot c w).take seq := by
  change s.handleHandover _ = _
  simp only [State.handleHandover, h, ha, referenceReport_receiver, referenceReport_seq]

theorem handle_query_taken {e : Entry} (ha : Safety.aboardAt s reference slot e) :
    s.handle (referenceReport .query seq 0 reference []) = State.take { s with
      alert := { s.alert with view := some { seq := seq, slot := slot, entry := e } }
      status := { s.status with demand := true } } seq := by
  change s.handleQuery _ = _
  simp only [State.handleQuery, referenceReport_reference, referenceReport_seq,
    findReference_of_aboardAt ha, account_of_aboardAt ha]

theorem handle_query_notAboard (ha : Safety.notAboard s reference) :
    s.handle (referenceReport .query seq 0 reference []) = s.refuse seq .unknownConsignment := by
  change s.handleQuery _ = _
  simp only [State.handleQuery, referenceReport_reference, referenceReport_seq,
    findReference_eq_none_iff.2 ha]

/-- The entry and the records of a closed TRACKED account, the queue having room: with no current excursion
the CLOSED record alone (R25, R26). -/
theorem closeTracked_calm {t : Tracking} (hx : t.excursion = none) (w : Option Word)
    (hq : s.queue.entries.length < 16) : s.closeTracked slot c t w = State.judgeUnitOff { s with
      accounts := s.accounts.set slot (.closing c (some t.opening) t.totals)
      queue := Safety.queued s [closedRecord slot s.now c (some t.opening.time) t.totals w] } := by
  simp only [State.closeTracked, hx, State.produce_room (s := s) rfl hq]
  rfl

/-- A current excursion is ended before the account closes (R25). -/
theorem closeTracked_excursion {t : Tracking} {x : Excursion} (hx : t.excursion = some x)
    (w : Option Word) (hq : s.queue.entries.length < 15) :
    s.closeTracked slot c t w = State.judgeUnitOff { s with
      accounts := s.accounts.set slot (.closing c (some t.opening) t.totals)
      queue := Safety.queued s [excursionRecord slot s.now c.reference x true,
        closedRecord slot s.now c (some t.opening.time) t.totals w] } := by
  simp only [State.closeTracked, hx]
  rw [State.produce_room (s := s) rfl (by omega), State.produce_queued (s := s) rfl (by simp; omega)]
  rfl

/-- The entry, the record and the latch of a closed STAGED account, the queue having room (R27, R8). -/
theorem closeStaged_room (w : Option Word) (hq : s.queue.entries.length < 16) :
    s.closeStaged slot c w = { s with
      accounts := s.accounts.set slot (.closing (c.unprove .staging) none Totals.zero)
      queue := Safety.queued s [closedRecord slot s.now (c.unprove .staging) none Totals.zero w]
      alert := { s.alert with
        latched := Safety.latchedIf s (c.verdict == .clean) .unproven } } := by
  simp only [State.closeStaged, State.produce_room (s := s) rfl hq, State.latchIf, Safety.latchedIf]
  split <;> rfl

theorem unprove_staging : c.unprove .staging =
    { c with verdict := if c.verdict = .clean then .unproven .staging else c.verdict } := by
  cases h : c.verdict <;> simp [Consignment.unprove, Verdict.toUnproven, h]

end

/-! ### The commands that are taken -/

/-- Settles O8: the checks of R10 pass, and the LOAD is staged with its record (R12). -/
theorem loadStages : Obligations.LoadStages := by
  intro s seq reference placement slot h h31 hcount hcomp hband hen hs ha hf hq
  have hcheck : s.checkLoad (referenceReport .load seq 0 reference [placement]) = .ok slot := by
    rw [checkLoad_lowestFree (loadPlaced_iff.2 ⟨hcount, hen⟩) hs (by simpa using ha)
      (lowestFree_of_lowestFreeAt hf), if_neg (not_room_lt_one hq)]
  rw [exec_load, State.arrives_taken h ((encodingOk_load ..).2 ⟨rfl, h31, hcomp, hband⟩)
    (handle_load_taken hcheck hq) rfl rfl (List.cons_ne_nil _ _)]
  rfl

/-- A taken MOVE of the account in a slot, which has the entry `f` afterwards (R20, R21, R46). -/
theorem move_taken {s : State} {seq : Half} {reference : BitVec 64} {target : Word} {slot : Nat}
    {e f : Entry} {c : Consignment} (h : Safety.AtHandler s)
    (hw : bits target 31 16 = 0 ∧ bits target 7 0 = 0 ∧ bits target 15 8 ≤ 3)
    (hcount : bits target 15 8 < s.cfg.count) (hs : s.stop ≠ none)
    (ha : Safety.aboardAt s reference slot e) (hc : e.consignment = some c)
    (hclosing : ∀ o t, e ≠ .closing c o t) (hne : c.compartment ≠ bits target 15 8)
    (hq : s.queue.entries.length < 16)
    (hf : e.mapConsignment (fun x => { x with compartment := bits target 15 8 }) = f) :
    exec (.move seq 0 reference target) s = .next (State.settle
      { State.judgeUnitOff { s with
          accounts := s.accounts.set slot f
          queue := Safety.queued s [
            { time := s.clock.seconds, slot := some slot
              body := .moved reference c.compartment (bits target 15 8) }] } with
        receipt := Safety.takenReceipt s seq 1 } s) := by
  have hfield : s.moveField (referenceReport .move seq 0 reference [target]) = true := by
    rw [moveField_aboard (by simpa using ha) hc]
    exact ⟨hcount, hne⟩
  have hcheck : s.checkMove (referenceReport .move seq 0 reference [target]) = .ok (slot, c) := by
    rw [checkMove_present hfield hs (by simpa using ha) hc hclosing, if_neg (not_room_lt_one hq)]
  subst hf
  rw [exec_move, State.arrives_taken h ((encodingOk_move ..).2 ⟨rfl, hw⟩)
    (handle_move_taken hcheck (account_of_aboardAt ha) (reference_of_aboardAt ha hc) hq)
    (State.judgeUnitOff_receipt _) (State.judgeUnitOff_queue _) (List.cons_ne_nil _ _)]
  rfl

/-- Settles O10: the MOVE of a STAGED and of a TRACKED account, and the WITHDRAW (R20, R24). -/
theorem moveAndWithdraw : Obligations.MoveAndWithdraw := by
  constructor
  · intro s seq reference target slot e f c h h31 h7 hcount hcomp hs ha hne hq hef
    rcases hef with ⟨d, rfl, rfl⟩ | ⟨t, rfl, rfl⟩
    · exact move_taken h ⟨h31, h7, hcomp⟩ hcount hs ha rfl (fun _ _ => nofun) hne hq rfl
    · exact move_taken h ⟨h31, h7, hcomp⟩ hcount hs ha rfl (fun _ _ => nofun) hne hq rfl
  · intro s seq reference slot c d h ha hq
    have hcheck : s.checkWithdraw (referenceReport .withdraw seq 0 reference []) = .ok slot := by
      rw [checkWithdraw_staged (by simpa using ha), if_neg (not_room_lt_one hq)]
    rw [exec_withdraw, State.arrives_taken h ((encodingOk_headerOnly _ _ _ _ _ _ (.inl rfl)).2 rfl)
      (handle_withdraw_taken hcheck hq) rfl rfl (List.cons_ne_nil _ _)]
    rfl

/-- Settles O11: the closing of a TRACKED account, with and without a current excursion, and of a STAGED
one (R25 to R27). -/
theorem handoverCloses : Obligations.HandoverCloses := by
  constructor
  · intro s seq reference receiver slot c t h hs ha hq
    have hreference : c.reference = reference := reference_of_aboardAt ha rfl
    have hencoded := (encodingOk_headerOnly .handover seq 0 reference s.cfg receiver.toList
      (.inr (.inl rfl))).2 rfl
    have hcheck := checkHandover_tracked
      (r := referenceReport .handover seq 0 reference receiver.toList) hs (by simpa using ha)
    cases hx : t.excursion with
    | none =>
      have hroom : s.queue.entries.length < 16 := by simpa [hx] using hq
      rw [handoverRecords_calm hx, if_neg (not_room_lt_one hroom)] at hcheck
      have hhandle := handle_handover_tracked hcheck (account_of_aboardAt ha)
      rw [closeTracked_calm hx _ hroom] at hhandle
      rw [exec_handover, State.arrives_taken h hencoded hhandle (State.judgeUnitOff_receipt _)
        (State.judgeUnitOff_queue _) (List.cons_ne_nil _ _), ← hreference]
      rfl
    | some x =>
      have hroom : s.queue.entries.length < 15 := by
        simp only [hx, reduceCtorEq, if_false] at hq
        omega
      rw [handoverRecords_excursion (by simp [hx]), if_neg (not_room_lt_two hroom)] at hcheck
      have hhandle := handle_handover_tracked hcheck (account_of_aboardAt ha)
      rw [closeTracked_excursion hx _ hroom] at hhandle
      rw [exec_handover, State.arrives_taken h hencoded hhandle (State.judgeUnitOff_receipt _)
        (State.judgeUnitOff_queue _) (List.cons_ne_nil _ _), ← hreference]
      rfl
  · intro s seq reference receiver slot c d h hs ha hq
    have hcheck : s.checkHandover (referenceReport .handover seq 0 reference receiver.toList) =
        .ok slot := by
      rw [checkHandover_staged hs (by simpa using ha), if_neg (not_room_lt_one hq)]
    have hreference : c.reference = reference := reference_of_aboardAt ha rfl
    have hhandle := handle_handover_staged hcheck (account_of_aboardAt ha)
    rw [closeStaged_room _ hq, unprove_staging] at hhandle
    rw [exec_handover, State.arrives_taken h ((encodingOk_headerOnly _ _ _ _ _ _ (.inr (.inl rfl))).2 rfl)
      hhandle rfl rfl (List.cons_ne_nil _ _), ← hreference]
    rfl

/-- Settles O12: the QUERY of an entry aboard, of an unknown reference, and with a reserved bit set. -/
theorem queryReports : Obligations.QueryReports := by
  have header (rsv : BitVec 7) (seq : Half) (reference : BitVec 64) (cfg : Setup) :
      encodingOk cfg (referenceReport .query seq rsv reference []) = true ↔ rsv = 0 :=
    encodingOk_headerOnly _ _ _ _ _ _ (.inr (.inr rfl))
  constructor
  · intro s seq reference slot e h ha
    rw [exec_query, State.arrives_takenNothing h ((header _ _ _ _).2 rfl) (handle_query_taken ha) rfl rfl]
    rfl
  · intro s seq rsv reference h
    refine ⟨fun ha => ?_, fun hr => ?_⟩
    · rw [exec_query, State.arrives_refused h ((header _ _ _ _).2 rfl) (handle_query_notAboard ha)]
      rfl
    · exact congrArg Host.Outcome.next (State.arrives_badField h (mt (header _ _ _ _).1 hr))

end Sys2Proof
end

section
/-! The deadlines of the account table (R18, R64), the READING at its handler (R33, R51, R110) and the turns
of the walk (R14 to R16, R72, R89). -/

namespace Sys2Proof

open Machine

/-! ### Deadlines -/

theorem Machine.State.reached_iff {s : State} {d : Nat} :
    s.reached d = true ↔ s.supply.part ≠ .retain ∧ d ≤ s.clock.seconds := by
  rw [State.reached, Bool.and_eq_true, bne_iff_ne, decide_eq_true_eq]
  rfl

theorem Machine.State.expireStaging_due {s : State} {slot d : Nat} {c : Consignment}
    (h : s.account slot = .staged c d) (hd : s.reached d = true) :
    s.expireStaging slot = s.openAtDeadline slot c d := by
  simp only [State.expireStaging, h, hd, if_true]

theorem Machine.State.expireGap_due {s : State} {slot d : Nat} {c : Consignment} {t : Tracking}
    (h : s.account slot = .tracked c t) (ht : t.gapDeadline = some d) (hd : s.reached d = true) :
    s.expireGap slot = s.gapAtDeadline slot c t d := by
  simp only [State.expireGap, h, ht, hd, if_true]

theorem unprove_of_clean {c : Consignment} (h : c.verdict = .clean) (cause : UnprovenCause) :
    c.unprove cause = { c with verdict := .unproven cause } := by
  simp [Consignment.unprove, h, Verdict.toUnproven]

theorem unprove_of_not_clean {c : Consignment} (h : c.verdict ≠ .clean) (cause : UnprovenCause) :
    c.unprove cause = c := by
  obtain ⟨r, k, b, v⟩ := c
  cases v with
  | clean => exact absurd rfl h
  | unproven x => rfl
  | broken x => rfl

/-- Settles O15: both deadlines, each by the verdict that stood (R18, R64). -/
theorem accountDeadlines : Obligations.AccountDeadlines := by
  constructor
  · intro s slot c d ha hv hd hp
    have hdue := State.expireStaging_due (State.account_of_getElem? ha) (State.reached_iff.2 ⟨hp, hd⟩)
    change Host.Outcome.next ((s.expireStaging slot).settle s) = _
    rw [hdue, State.openAtDeadline, unprove_of_clean hv, hv]
    rfl
  · intro s slot c t d ha ht hd hp
    have hdue := State.expireGap_due (State.account_of_getElem? ha) ht (State.reached_iff.2 ⟨hp, hd⟩)
    refine ⟨fun hv => ?_, fun hv => ?_⟩
    · change Host.Outcome.next ((s.expireGap slot).settle s) = _
      rw [hdue, State.gapAtDeadline, unprove_of_clean hv, if_pos hv]
      rfl
    · change Host.Outcome.next ((s.expireGap slot).settle s) = _
      rw [hdue, State.gapAtDeadline, unprove_of_not_clean hv, if_neg hv]
      rfl

/-! ### The READING at its handler -/

theorem doorOfCode_isSome (n : Nat) : (doorOfCode n).isSome = true ↔ n ≤ 2 := by
  rcases n with _ | _ | _ | n <;> simp [doorOfCode]

theorem unitOfCode_isSome (n : Nat) : (unitOfCode n).isSome = true ↔ n ≤ 3 := by
  rcases n with _ | _ | _ | _ | n <;> simp [unitOfCode]

theorem stateWordOk_iff (w : Word) :
    stateWordOk w = true ↔ bits w 31 8 = 0 ∧ bits w 7 4 ≤ 3 ∧ bits w 3 0 ≤ 2 := by
  simp only [stateWordOk, Bool.and_eq_true, doorOfCode_isSome, unitOfCode_isSome, beq_iff_eq]
  tauto

/-- A READING with its first body word and the words behind it (R110, R214). -/
def readingReport (seq : Half) (rsv : BitVec 7) (head : Word) (words : List Word) : Report :=
  { seq := seq, kind := .reading, rsv := rsv, body := head :: words }

theorem exec_reading (seq : Half) (rsv : BitVec 7) (head : Word) (words : List Word) (s : State) :
    exec (.reading seq rsv (head :: words)) s =
      .next (s.reportArrives (readingReport seq rsv head words)) := rfl

theorem readingReport_stateWord (seq : Half) (rsv : BitVec 7) (head : Word) (words : List Word)
    (k : Nat) : (readingReport seq rsv head words).stateWord k = words.getD (2 * k + 1) 0 := by
  change (head :: words).getD (3 + 2 * k - 1) 0 = _
  rw [show 3 + 2 * k - 1 = 2 * k + 1 + 1 by omega]
  rfl

/-- The encoding checks of a READING, one by one (R105, R110). -/
theorem encodingOk_reading (cfg : Setup) (seq : Half) (rsv : BitVec 7) (head : Word)
    (words : List Word) :
    encodingOk cfg (readingReport seq rsv head words) = true ↔
      rsv = 0 ∧ 1 ≤ bits head 2 0 ∧ bits head 2 0 ≤ 4 ∧ words.length = 2 * bits head 2 0 ∧
        bits head 2 0 = cfg.count ∧ bits head 15 3 = 0 ∧
        ∀ k < bits head 2 0, stateWordOk (words.getD (2 * k + 1) 0) = true := by
  change (rsv == 0 && readingEncodingOk cfg (readingReport seq rsv head words)) = true ↔ _
  have hcount : (readingReport seq rsv head words).count = bits head 2 0 := rfl
  have hword : (readingReport seq rsv head words).word 1 = head := rfl
  have hlength : (readingReport seq rsv head words).body.length = words.length + 1 := rfl
  simp only [readingEncodingOk, hcount, hword, hlength, Bool.and_eq_true, beq_iff_eq,
    decide_eq_true_eq, List.all_eq_true, List.mem_range, readingReport_stateWord]
  constructor
  · rintro ⟨hr, ⟨⟨⟨⟨h1, h4⟩, hl⟩, hc⟩, hb⟩, hs⟩
    exact ⟨hr, h1, h4, by omega, hc, hb, hs⟩
  · rintro ⟨hr, h1, h4, hl, hc, hb, hs⟩
    exact ⟨hr, ⟨⟨⟨⟨h1, h4⟩, by omega⟩, hc⟩, hb⟩, hs⟩

theorem newer_iff (b a : Half) : newer b a = true ↔ 1 ≤ (b - a).toNat ∧ (b - a).toNat ≤ 32767 := by
  simp [newer]

/-- A tracker with no reading yet takes any sequence (R51). -/
theorem Machine.Cadence.takes_iff (c : Cadence) (seq : Half) :
    c.takes seq = true ↔ ∀ last, c.lastSeq = some last → newer seq last = true := by
  unfold Cadence.takes
  cases c.lastSeq <;> simp

/-- The first body word of a READING as a number (R214). -/
theorem toNat_readingHead (readingSeq : Half) {n : Nat} (h : n < 65536) :
    (readingSeq ++ BitVec.ofNat 16 n : Word).toNat = readingSeq.toNat * 65536 + n := by
  rw [BitVec.toNat_append, BitVec.toNat_ofNat, Nat.mod_eq_of_lt h,
    ← Nat.shiftLeft_add_eq_or_of_lt (by simpa using h), Nat.shiftLeft_eq]

theorem bits_toNat (w : Word) (hi lo : Nat) : bits w hi lo = w.toNat / 2 ^ lo % 2 ^ (hi - lo + 1) := by
  rw [bits, BitVec.extractLsb_toNat, Nat.shiftRight_eq_div_pow]

/-- A count of 1 to 4 stands in its field, with nothing in the reserved bits (R214). -/
theorem readingHead_fields (readingSeq : Half) {n : Nat} (h : n ≤ 4) :
    bits (readingSeq ++ BitVec.ofNat 16 n) 2 0 = n ∧ bits (readingSeq ++ BitVec.ofNat 16 n) 15 3 = 0 := by
  rw [bits_toNat, bits_toNat, toNat_readingHead readingSeq (by omega)]
  constructor <;> norm_num <;> omega

theorem readingHead_readingSeq (seq readingSeq low : Half) (rsv : BitVec 7) (words : List Word) :
    (readingReport seq rsv (readingSeq ++ low) words).readingSeq = readingSeq := by
  change (readingSeq ++ low).extractLsb' 16 16 = readingSeq
  rw [BitVec.extractLsb'_append_eq_left]

/-- Settles O21: the four steps of a taken READING, and the two refusals in their order. -/
theorem readingTakenOrRefused : Obligations.ReadingTakenOrRefused := by
  constructor
  · intro s seq readingSeq words h h1 h4 hl hw hnew head report accepted updated searched
    obtain ⟨hcount, hrsv⟩ := readingHead_fields readingSeq h4
    have hencoded : encodingOk s.cfg (readingReport seq 0 head words) = true := by
      rw [encodingOk_reading, hcount, hrsv]
      exact ⟨rfl, h1, h4, hl, rfl, rfl, fun k hk => (stateWordOk_iff _).2 (hw k hk)⟩
    have htakes : s.cadence.takes (readingReport seq 0 head words).readingSeq = true := by
      rw [readingHead_readingSeq, Cadence.takes_iff]
      exact fun last hlast => (newer_iff _ _).2 (hnew last hlast)
    have hhandle : s.handle (readingReport seq 0 head words) = searched.walk.take seq := by
      change s.handleReading _ = _
      rw [State.handleReading, if_pos htakes, readingHead_readingSeq]
      rfl
    rw [exec_reading, State.reportArrives_handle h hencoded, hhandle]
  · intro s seq last rsv head words h count refusal badState bad
    have hencoded : encodingOk s.cfg (readingReport seq rsv head words) = true ↔ ¬ bad := by
      have hstates : badState ↔ ¬ ∀ k < count, stateWordOk (words.getD (2 * k + 1) 0) = true := by
        simp only [stateWordOk_iff, not_forall, not_and_or, Nat.not_le, exists_prop, badState]
      simp only [encodingOk_reading, bad, hstates, not_or, not_not]
      constructor
      · rintro ⟨hr, h1, h4, hl, hc, hb, hw⟩
        exact ⟨hr, hb, by omega, by omega, hc, hl, hw⟩
      · rintro ⟨hr, hb, h1, h4, hc, hl, hw⟩
        exact ⟨hr, by omega, by omega, hl, hc, hb, hw⟩
    refine ⟨fun hb => ?_, fun hb hlast hold => ?_⟩
    · exact congrArg Host.Outcome.next (State.arrives_badField h (fun he => hencoded.1 he hb))
    · have hstale : s.cadence.takes (readingReport seq rsv head words).readingSeq = false := by
        rw [Bool.eq_false_iff, ne_eq, Cadence.takes_iff]
        intro hnew
        obtain ⟨h1, hmax⟩ := (newer_iff _ _).1 (hnew last hlast)
        rcases hold with heq | hfar
        · rw [show (readingReport seq rsv head words).readingSeq = last from heq] at h1
          simp at h1
        · exact absurd hmax (Nat.not_le.2 hfar)
      have hhandle : s.handle (readingReport seq rsv head words) = s.refuse seq .stale := by
        change s.handleReading _ = _
        rw [State.handleReading, hstale]
        rfl
      exact congrArg Host.Outcome.next (State.arrives_refused h (hencoded.2 hb) hhandle)

/-! ### The turns of the walk -/

/-- The verdict breaks in this evaluation (R84, R85). -/
theorem broke_iff (v w : Verdict) :
    (!v.isBroken && w.isBroken) = true ↔ (∀ x, v ≠ .broken x) ∧ ∃ x, w = .broken x := by
  cases v <;> cases w <;> simp [Verdict.isBroken]

section
variable {s : State} {slot : Nat} {c : Consignment}

theorem walkSlot_free (h : s.account slot = .free) : s.walkSlot slot = s := by
  simp only [State.walkSlot, h]

theorem walkSlot_closing {o : Option Opening} {t : Totals} (h : s.account slot = .closing c o t) :
    s.walkSlot slot = s := by
  simp only [State.walkSlot, h]

theorem walkSlot_tracked {t : Tracking} (h : s.account slot = .tracked c t) :
    s.walkSlot slot = s.evaluateSlot slot := by
  simp only [State.walkSlot, h]

theorem walkSlot_staged {d : Nat} {k : Compartment} (h : s.account slot = .staged c d)
    (hk : s.compartments[c.compartment]? = some k) : s.walkSlot slot =
      if opensAt s.cadence s.cfg c k then (s.openSlot slot c k).evaluateSlot slot else s := by
  simp only [State.walkSlot, h, hk]

/-- The opening test of R15. -/
theorem opensAt_iff (cadence : Cadence) (cfg : Setup) (k : Compartment) :
    opensAt cadence cfg c k = true ↔ cadence.state = .locked ∧ k.door = .closed ∧ k.doubt = none ∧
      ∃ e, k.effective = some e ∧
        (excess (cfg.band c.band) e = 0 ∨ ∃ x, k.doorMachine = .recovery x) := by
  have hrecovery : k.doorMachine.isRecovery = true ↔ ∃ x, k.doorMachine = .recovery x := by
    cases k.doorMachine <;> simp [Allowance.isRecovery]
  unfold opensAt
  cases he : k.effective with
  | none => simp
  | some e => simp [hrecovery, and_assoc]

/-- What an evaluation that breaks the account writes (R8, R85, R89). -/
theorem takeEvaluation_broke {r : Evaluated}
    (h : (∀ x, c.verdict ≠ .broken x) ∧ ∃ x, r.verdict = .broken x) :
    s.takeEvaluation slot c r =
      (((s.setAccount slot (.tracked (c.withVerdict r.verdict) r.tracking)).latch .broken).queueEnded
        slot c.reference r.ended).produce
          (verdictRecord slot s.now (c.withVerdict r.verdict) r.tracking.totals) :=
  if_pos ((broke_iff _ _).2 h)

/-- What any other evaluation writes (R85, R89). -/
theorem takeEvaluation_kept {r : Evaluated}
    (h : ¬ ((∀ x, c.verdict ≠ .broken x) ∧ ∃ x, r.verdict = .broken x)) :
    s.takeEvaluation slot c r =
      (s.setAccount slot (.tracked (c.withVerdict r.verdict) r.tracking)).queueEnded
        slot c.reference r.ended :=
  if_neg (mt (broke_iff _ _).1 h)

end

/-- Settles O27: the turns of a slot by its lifecycle (R14 to R16, R72, R89). -/
theorem turnOfSlot : Obligations.TurnOfSlot := by
  refine ⟨⟨fun s => rfl, ?_, ?_⟩, ?_⟩
  · intro s slot e h
    have ha := State.account_of_getElem? h
    refine ⟨?_, ?_⟩
    · rintro (rfl | ⟨c, o, t, rfl⟩)
      · exact walkSlot_free ha
      · exact walkSlot_closing ha
    · rintro c t rfl
      exact walkSlot_tracked ha
  · intro s slot c t k h hk
    have ha := State.account_of_getElem? h
    refine ⟨fun he => ?_, ?_⟩
    · rw [walkSlot_tracked ha, State.evaluateSlot_absent ha hk he]
    · intro e he r broke s1 broken excursion verdict
      have hturn : s.walkSlot slot = s.takeEvaluation slot c r := by
        rw [walkSlot_tracked ha, State.evaluateSlot_present ha hk he]
        rfl
      refine ⟨fun hb hx => ?_, fun x hb hx => ?_, fun hb hx => ?_, fun x hb hx => ?_⟩
      · rw [hturn, takeEvaluation_kept hb, hx]
        rfl
      · rw [hturn, takeEvaluation_kept hb, hx]
        rfl
      · rw [hturn, takeEvaluation_broke hb, hx]
        rfl
      · rw [hturn, takeEvaluation_broke hb, hx]
        rfl
  · intro s slot c d k h hk opens opened
    have hturn := walkSlot_staged (State.account_of_getElem? h) hk
    refine ⟨fun ho => ?_, fun ho => ?_⟩
    · rw [hturn, if_pos ((opensAt_iff _ _ _).2 ho)]
      rfl
    · rw [hturn, if_neg (mt (opensAt_iff _ _ _).1 ho)]

end Sys2Proof
end

section
/-! Compartments at a taken READING (chapter 02): probes, runs and doubt, the allowance machines and their
expiries, the turn of one compartment, and the standing conditions that are judged beside it (R46, R124). -/

namespace Sys2Proof

open Machine

/-! ### Probe mode and runs (R35, R37) -/

theorem disagrees_some (tolerance : Nat) (x y : Int) :
    disagrees tolerance (some x) (some y) = true ↔ tolerance < (x - y).natAbs := by
  simp [disagrees]

section
variable (r : Runs)

/-- Both probes present and apart: the disagreement run grows, the others end (R37). -/
theorem Machine.Runs.update_apart {tolerance : Nat} {x y : Int} (h : tolerance < (x - y).natAbs) :
    r.update true (disagrees tolerance (some x) (some y)) (formMode true (some x) (some y)) =
      { disagree := growRun r.disagree, absence := 0, trust := 0 } :=
  if_pos ((disagrees_some _ _ _).2 h)

/-- Both probes present and within the tolerance: the trust run grows, the others end (R37). -/
theorem Machine.Runs.update_agree {tolerance : Nat} {x y : Int} (h : (x - y).natAbs ≤ tolerance) :
    r.update true (disagrees tolerance (some x) (some y)) (formMode true (some x) (some y)) =
      { disagree := 0, absence := 0, trust := growRun r.trust } :=
  if_neg fun hd => Nat.not_lt.2 h ((disagrees_some _ _ _).1 hd)

/-- Probe A present where it is the only one fitted: trust, whatever the probe word's other half says (R37). -/
theorem Machine.Runs.update_onlyFitted (disagree : Bool) (x : Int) (b : Option Int) :
    r.update false disagree (formMode false (some x) b) =
      { disagree := 0, absence := 0, trust := growRun r.trust } := rfl

/-- A fitted probe absent: the absence run grows, the disagreement run stands and trust ends (R37). -/
theorem Machine.Runs.update_absent (disagree : Bool) {bFitted : Bool} {a b : Option Int}
    (h : (bFitted = true ∧ (a = none ∨ b = none)) ∨ (bFitted = false ∧ a = none)) :
    r.update bFitted disagree (formMode bFitted a b) =
      { disagree := r.disagree, absence := growRun r.absence, trust := 0 } := by
  rcases h with ⟨rfl, rfl | rfl⟩ | ⟨rfl, rfl⟩
  · cases b <;> rfl
  · cases a <;> rfl
  · rfl

end

/-! ### Doubt (R38) -/

theorem runReaches_iff {count before after : Nat} :
    runReaches count before after = true ↔ before < count ∧ count ≤ after := by
  simp [runReaches]

section
variable {count : Nat} {before after : Runs}

theorem doubtChange_disagree (h : runReaches count before.disagree after.disagree = true) :
    doubtChange count none before after = some { raised := true, cause := .disagree } := if_pos h

theorem doubtChange_absent (hd : ¬ runReaches count before.disagree after.disagree = true)
    (ha : runReaches count before.absence after.absence = true) :
    doubtChange count none before after = some { raised := true, cause := .absent } :=
  (if_neg hd).trans (if_pos ha)

theorem doubtChange_none (hd : ¬ runReaches count before.disagree after.disagree = true)
    (ha : ¬ runReaches count before.absence after.absence = true) :
    doubtChange count none before after = none :=
  (if_neg hd).trans (if_neg ha)

theorem doubtChange_cleared (cause : DoubtCause)
    (h : runReaches count before.trust after.trust = true) :
    doubtChange count (some cause) before after = some { raised := false, cause := cause } := if_pos h

theorem doubtChange_kept (cause : DoubtCause)
    (h : ¬ runReaches count before.trust after.trust = true) :
    doubtChange count (some cause) before after = none := if_neg h

end

/-- Settles O16: the rows of R35 and R37, and the doubtful flag by the runs that reach the count (R38). -/
theorem probesRunsAndDoubt : Obligations.ProbesRunsAndDoubt := by
  refine ⟨fun a b => ?_, fun r tolerance bFitted a b => ⟨?_, ?_, ?_, ?_⟩, fun count before after => ?_⟩
  · exact ⟨⟨rfl, rfl⟩, ⟨rfl, rfl⟩, ⟨rfl, rfl⟩, ⟨rfl, rfl⟩, fun _ => ⟨rfl, rfl⟩, fun _ => ⟨rfl, rfl⟩⟩
  · rintro x y rfl rfl rfl h
    exact r.update_apart h
  · rintro x y rfl rfl rfl h
    exact r.update_agree h
  · rintro rfl ha
    obtain ⟨x, rfl⟩ := Option.ne_none_iff_exists'.1 ha
    exact r.update_onlyFitted _ x b
  · exact r.update_absent _
  · simp only [← runReaches_iff]
    exact ⟨doubtChange_disagree, doubtChange_absent, doubtChange_none,
      fun cause => ⟨doubtChange_cleared cause, doubtChange_kept cause⟩,
      fun _ _ => ⟨rfl, rfl, rfl⟩⟩

/-! ### Allowance machines (R41, R43, R44) -/

section
variable {s : State} {k e : Nat} {c : Compartment} {n : MachineName}

theorem Machine.State.mapMachine_present (h : s.compartments[k]? = some c)
    (f : Allowance → Allowance) : s.mapMachine k n f =
      { s with compartments := s.compartments.set k (c.setMachine n (f (c.machine n))) } := by
  simp only [State.mapMachine, h]

theorem graceExpiry_due (h : s.compartments[k]? = some c) (hm : c.machine n = .grace e)
    (he : s.reached e = true) : exec (.graceExpiry k n) s = .next (State.settle
      { s with compartments := s.compartments.set k (c.setMachine n .expired) } s) := by
  change Host.Outcome.next ((s.mapMachine k n fun m => m.expireGrace s.reached).settle s) = _
  rw [State.mapMachine_present h, hm, Allowance.expireGrace, if_pos he]

theorem recoveryExpiry_due (h : s.compartments[k]? = some c) (hm : c.machine n = .recovery e)
    (he : s.reached e = true) : exec (.recoveryExpiry k n) s = .next (State.settle
      { s with compartments := s.compartments.set k (c.setMachine n .idle) } s) := by
  change Host.Outcome.next ((s.mapMachine k n fun m => m.expireRecovery s.reached).settle s) = _
  rw [State.mapMachine_present h, hm, Allowance.expireRecovery, if_pos he]

end

/-- Settles O17: the table of R41, and both expiries of both machines (R43). -/
theorem allowanceMachines : Obligations.AllowanceMachines := by
  refine ⟨fun now grace recovery e => ⟨rfl, rfl, rfl, rfl, rfl, rfl, rfl, rfl⟩, ?_⟩
  intro s k c e h he hp moved
  have hdue : s.reached e = true := State.reached_iff.2 ⟨hp, he⟩
  exact ⟨fun hm => graceExpiry_due (n := .door) h hm hdue,
    fun hm => graceExpiry_due (n := .defrost) h hm hdue,
    fun hm => recoveryExpiry_due (n := .door) h hm hdue,
    fun hm => recoveryExpiry_due (n := .defrost) h hm hdue⟩

/-! ### The turn of one compartment (R33, R34, R36, R39, R40) -/

theorem doorOf_iff (w : Word) :
    (doorOf w = .opened ↔ bits w 3 0 = 2) ∧ (doorOf w = .closed ↔ bits w 3 0 = 1) := by
  unfold doorOf
  rcases bits w 3 0 with _ | _ | _ | n <;> simp [doorOfCode]

theorem unitOf_iff (w : Word) : (unitOf w = .defrost ↔ bits w 7 4 = 2) ∧
    (unitOf w = .off ↔ bits w 7 4 = 3) ∧ (unitOf w = .running ↔ bits w 7 4 = 1) := by
  unfold unitOf
  rcases bits w 7 4 with _ | _ | _ | _ | n <;> simp [unitOfCode]

/-- A reading without an effective value leaves the last present time (R36). -/
theorem Machine.Compartment.update_lastPresent (c : Compartment) (cfg : Setup) (atStop : Bool)
    (now : Nat) (probe state : Word) : (c.update cfg atStop now probe state).lastPresent =
      if (c.update cfg atStop now probe state).effective = none then c.lastPresent else some now := by
  have byPresence (e : Option Effective) :
      (if e.isSome then some now else c.lastPresent) = if e = none then c.lastPresent else some now := by
    cases e <;> simp
  exact byPresence _

/-- The probe word of compartment `k` stands at word 2k + 1 of the body (R214). -/
theorem Machine.Report.probeWord_eq (r : Report) (k : Nat) :
    r.probeWord k = r.body.getD (2 * k + 1) 0 := by
  change r.body.getD (2 + 2 * k - 1) 0 = _
  rw [show 2 + 2 * k - 1 = 2 * k + 1 by omega]

/-- Its state word stands behind it (R214). -/
theorem Machine.Report.stateWord_eq (r : Report) (k : Nat) :
    r.stateWord k = r.body.getD (2 * k + 2) 0 := by
  change r.body.getD (3 + 2 * k - 1) 0 = _
  rw [show 3 + 2 * k - 1 = 2 * k + 2 by omega]

/-- The record of compartment `k` after its turn of a READING. -/
def turned (s : State) (r : Report) (k : Nat) (c : Compartment) : Compartment :=
  c.update s.cfg s.stop.isSome s.clock.seconds (r.body.getD (2 * k + 1) 0) (r.body.getD (2 * k + 2) 0)

section
variable {s : State} {r : Report} {k : Nat} {c : Compartment}

/-- A turn without a change of doubt writes the record alone (R33). -/
theorem updateCompartment_steady (h : s.compartments[k]? = some c)
    (hd : doubtChange s.cfg.doubtCount c.doubt c.runs (turned s r k c).runs = none) :
    s.updateCompartment r k = { s with compartments := s.compartments.set k (turned s r k c) } := by
  have hnew : c.newDoubt s.cfg (r.body.getD (2 * k + 1) 0) = none := hd
  simp only [State.updateCompartment, h, r.probeWord_eq, r.stateWord_eq, hnew]
  rfl

/-- A change of doubt queues its record, a raising latching PROBE_DOUBT (R39). -/
theorem updateCompartment_doubt {d : DoubtChange} (h : s.compartments[k]? = some c)
    (hd : doubtChange s.cfg.doubtCount c.doubt c.runs (turned s r k c).runs = some d) :
    s.updateCompartment r k =
      (State.latchIf { s with compartments := s.compartments.set k (turned s r k c) } d.raised
        .probeDoubt).produce
          (doubtRecord k s.now d (turned s r k c).probeA (turned s r k c).probeB) := by
  have hnew : c.newDoubt s.cfg (r.body.getD (2 * k + 1) 0) = some d := hd
  simp only [State.updateCompartment, h, r.probeWord_eq, r.stateWord_eq, hnew]
  rfl

/-- The turns of the compartments that stand, from 0 up, and the judgement behind them (R33, R46). -/
theorem updateCompartments_eq (r : Report) {n : Nat} (hn : s.compartments.length = n) :
    s.updateCompartments r =
      ((List.range n).foldl (fun t k => t.updateCompartment r k) s).judgeUnitOff := by
  rw [State.updateCompartments, hn]

end

/-- Settles O18: the record by its words, the turn by the change of doubt, and the turns in order. -/
theorem compartmentUpdated : Obligations.CompartmentUpdated := by
  constructor
  · intro c cfg atStop now probe state d temp
    obtain ⟨hopened, hclosed⟩ := doorOf_iff state
    obtain ⟨hdefrost, hoff, hrunning⟩ := unitOf_iff state
    exact ⟨rfl, rfl, rfl, rfl, rfl, c.update_lastPresent cfg atStop now probe state, rfl, rfl, hopened,
      hclosed, hdefrost, hoff, hrunning, rfl, rfl, rfl⟩
  · intro s r
    refine ⟨?_, updateCompartments_eq r, updateCompartments_eq r, updateCompartments_eq r,
      updateCompartments_eq r⟩
    intro k c h d change u record
    exact ⟨updateCompartment_steady h, fun cause hd => updateCompartment_doubt h hd,
      fun cause hd => updateCompartment_doubt h hd⟩

/-! ### Standing conditions (R46, R124) -/

theorem Machine.State.latchIf_eq (s : State) (b : Bool) (c : Cause) :
    s.latchIf b c = { s with alert := { s.alert with latched := Safety.latchedIf s b c } } := by
  cases b <;> rfl

/-- The two parts of a unit-off standing (R46). -/
def UnitOffStands (accounts : List Entry) (k : Nat) (c : Compartment) : Prop :=
  c.unit = .off ∧ ∃ a t, Entry.tracked a t ∈ accounts ∧ a.compartment = k

theorem trackedIn_iff (k : Nat) (e : Entry) :
    e.trackedIn k = true ↔ ∃ a t, e = .tracked a t ∧ a.compartment = k := by
  cases e <;> simp [Entry.trackedIn]

theorem unitOffNow_iff (accounts : List Entry) (k : Nat) (c : Compartment) :
    unitOffNow accounts k c = true ↔ UnitOffStands accounts k c := by
  simp only [unitOffNow, UnitOffStands, Bool.and_eq_true, beq_iff_eq, List.any_eq_true, trackedIn_iff]
  refine and_congr_right fun _ => ?_
  constructor
  · rintro ⟨_, he, a, t, rfl, hk⟩
    exact ⟨a, t, he, hk⟩
  · rintro ⟨a, t, he, hk⟩
    exact ⟨_, he, a, t, rfl, hk⟩

/-- Some unit-off standing turns from no to yes (R46). -/
def unitOffBegins (s : State) : Bool :=
  (s.compartments.mapIdx (fun k c => unitOffNow s.accounts k c && !c.unitOff)).any id

theorem unitOffBegins_iff (s : State) : unitOffBegins s = true ↔
    ∃ k c, s.compartments[k]? = some c ∧ c.unitOff = false ∧ UnitOffStands s.accounts k c := by
  simp only [unitOffBegins, List.any_eq_true, List.mem_iff_getElem?, List.getElem?_mapIdx,
    Option.map_eq_some_iff, ← unitOffNow_iff]
  constructor
  · rintro ⟨_, ⟨k, c, hc, rfl⟩, hb⟩
    obtain ⟨hstands, hoff⟩ := Bool.and_eq_true_iff.1 hb
    exact ⟨k, c, hc, by simpa using hoff, hstands⟩
  · rintro ⟨k, c, hc, hoff, hstands⟩
    exact ⟨_, ⟨k, c, hc, rfl⟩, by simp [hoff, hstands]⟩

/-- The judgement of the unit-off standings: every record takes its standing, and a beginning latches
UNIT_OFF (R46). -/
theorem Machine.State.judgeUnitOff_eq (s : State) : s.judgeUnitOff =
    { s with
      compartments := s.compartments.mapIdx fun k c => { c with unitOff := unitOffNow s.accounts k c }
      alert := { s.alert with latched := Safety.latchedIf s (unitOffBegins s) .unitOff } } :=
  State.latchIf_eq _ _ _

theorem Machine.State.judgeNearFull_eq (s : State) : s.judgeNearFull =
    { s with
      writer := { s.writer with nearFull := s.nearFullStands }
      alert := { s.alert with
        latched := Safety.latchedIf s (s.nearFullStands && !s.writer.nearFull) .logNearFull } } := by
  rw [State.judgeNearFull, State.latchIf_eq]

theorem Machine.State.nearFullStands_set {s : State} {c : Setup} {l : LogState}
    (hc : s.setup.inForce = some c) (hl : s.writer.log = some l) :
    s.nearFullStands = decide (c.logSize - l.used < c.nearFull) := by
  simp only [State.nearFullStands, hc, hl]
  rfl

/-- Settles O14: both judgements, each with the latch of its beginning. -/
theorem standingConditionsJudged : Obligations.StandingConditionsJudged := by
  constructor
  · intro s stands
    refine ⟨_, _, s.judgeUnitOff_eq, List.length_mapIdx, fun k c hc => ?_, fun hb => ?_, fun hb => ?_⟩
    · exact ⟨unitOffNow s.accounts k c, by simp [hc], unitOffNow_iff _ _ _⟩
    · exact if_pos ((unitOffBegins_iff s).2 hb)
    · exact if_neg (mt (unitOffBegins_iff s).1 hb)
  · intro s c l hc hl stands
    rw [s.judgeNearFull_eq, State.nearFullStands_set hc hl]

end Sys2Proof
end

section
/-! STOP and TIME reports at their handler (R47, R211), and what a READING leaves unchanged at its handler
(R33, R52, R61, R72). -/

namespace Sys2Proof

open Machine

/-! ### STOP and TIME reports: their words and encoding checks (R105, R213, R214) -/

/-- A STOP report: stop number, reserved bits and indication in its one body word (R214). -/
def stopReport (seq : Half) (rsv : BitVec 7) (number : Half) (bodyRsv : BitVec 14)
    (indication : BitVec 2) : Report :=
  { seq := seq, kind := .stop, rsv := rsv, body := [number ++ bodyRsv ++ indication] }

/-- A TIME report (R211). -/
def timeReport (seq : Half) (rsv : BitVec 7) (high low : Word) : Report :=
  { seq := seq, kind := .time, rsv := rsv, body := [high, low] }

section
variable (seq : Half) (rsv : BitVec 7) (number : Half) (bodyRsv : BitVec 14) (s : State)

theorem exec_arrive : exec (.arrive seq rsv number bodyRsv) s =
    .next (s.reportArrives (stopReport seq rsv number bodyRsv 1)) := rfl

theorem exec_depart : exec (.depart seq rsv number bodyRsv) s =
    .next (s.reportArrives (stopReport seq rsv number bodyRsv 2)) := rfl

theorem exec_time (high low : Word) : exec (.time seq rsv high low) s =
    .next (s.reportArrives (timeReport seq rsv high low)) := rfl

/-- The fields of a STOP body word lie side by side (R214). -/
theorem toNat_stopWord (indication : BitVec 2) : (number ++ bodyRsv ++ indication : Word).toNat =
    number.toNat * 65536 + bodyRsv.toNat * 4 + indication.toNat := by
  have hb := bodyRsv.isLt
  have hi := indication.isLt
  rw [BitVec.toNat_append, BitVec.toNat_append, ← Nat.shiftLeft_add_eq_or_of_lt hb,
    ← Nat.shiftLeft_add_eq_or_of_lt hi, Nat.shiftLeft_eq, Nat.shiftLeft_eq]
  omega

theorem stopWord_reserved (indication : BitVec 2) :
    bits (number ++ bodyRsv ++ indication) 15 2 = bodyRsv.toNat := by
  have hb := bodyRsv.isLt
  have hi := indication.isLt
  rw [bits_toNat, toNat_stopWord]
  norm_num
  omega

theorem stopWord_indication (indication : BitVec 2) :
    bits (number ++ bodyRsv ++ indication) 1 0 = indication.toNat := by
  have hi := indication.isLt
  rw [bits_toNat, toNat_stopWord]
  norm_num
  omega

theorem stopReport_stopNumber (indication : BitVec 2) :
    (stopReport seq rsv number bodyRsv indication).stopNumber = number := by
  change (number ++ bodyRsv ++ indication : Word).extractLsb' 16 16 = number
  have hn := number.isLt
  have hb := bodyRsv.isLt
  have hi := indication.isLt
  refine BitVec.eq_of_toNat_eq ?_
  rw [BitVec.extractLsb'_toNat, toNat_stopWord, Nat.shiftRight_eq_div_pow]
  omega

/-- Beside the header's reserved bits a STOP report has those of its body (R105, R213). -/
theorem encodingOk_stop (cfg : Setup) {indication : BitVec 2} (h : indication = 1 ∨ indication = 2) :
    encodingOk cfg (stopReport seq rsv number bodyRsv indication) = true ↔ rsv = 0 ∧ bodyRsv = 0 := by
  have hindication : indication.toNat = 1 ∨ indication.toNat = 2 := by
    rcases h with rfl | rfl <;> decide
  change (rsv == 0 && (bits (number ++ bodyRsv ++ indication) 15 2 == 0 &&
    (bits (number ++ bodyRsv ++ indication) 1 0 == 1 ||
      bits (number ++ bodyRsv ++ indication) 1 0 == 2))) = true ↔ _
  simp [stopWord_reserved, stopWord_indication, hindication, ← BitVec.toNat_inj]

theorem encodingOk_time (cfg : Setup) (high low : Word) :
    encodingOk cfg (timeReport seq rsv high low) = true ↔ rsv = 0 := by
  change (rsv == 0 && true) = true ↔ _
  simp

end

/-! ### Their handlers (R47, R112, R211) -/

section
variable {s : State} {r : Report}

theorem handleArrive_atStop (h : s.stop ≠ none) : s.handleArrive r = s.refuse r.seq .wrongState :=
  if_pos (Option.isSome_iff_ne_none.2 h)

theorem handleArrive_full (h : s.stop = none) (hq : 16 ≤ s.queue.entries.length) :
    s.handleArrive r = s.refuse r.seq .queueFull := by
  rw [State.handleArrive, if_neg (by simp [h]), if_pos (room_lt_one hq)]

theorem handleArrive_taken (h : s.stop = none) (hq : s.queue.entries.length < 16) :
    s.handleArrive r = State.take { s with
      stop := some r.stopNumber
      queue := Safety.queued s [stopRecord s.now r.stopNumber true] } r.seq := by
  rw [State.handleArrive, if_neg (by simp [h]), if_neg (not_room_lt_one hq),
    State.produce_room (s := s) (t := { s with stop := some r.stopNumber }) rfl hq]

theorem handleDepart_elsewhere (h : s.stop ≠ some r.stopNumber) :
    s.handleDepart r = s.refuse r.seq .wrongState := if_pos h

theorem handleDepart_full (h : s.stop = some r.stopNumber) (hq : 16 ≤ s.queue.entries.length) :
    s.handleDepart r = s.refuse r.seq .queueFull := by
  rw [State.handleDepart, if_neg (not_not_intro h), if_pos (room_lt_one hq)]

theorem handleDepart_taken (h : s.stop = some r.stopNumber) (hq : s.queue.entries.length < 16) :
    s.handleDepart r = State.take { s with
      stop := none
      queue := Safety.queued s [stopRecord s.now r.stopNumber false] } r.seq := by
  rw [State.handleDepart, if_neg (not_not_intro h), if_neg (not_room_lt_one hq),
    State.produce_room (s := s) (t := { s with stop := none }) rfl hq]

theorem handleTime_full (hq : 16 ≤ s.queue.entries.length) :
    s.handleTime r = s.refuse r.seq .queueFull := if_pos (room_lt_one hq)

theorem handleTime_taken (hq : s.queue.entries.length < 16) :
    s.handleTime r = State.take { s with
      queue := Safety.queued s
        [{ time := s.now, slot := none, body := .time (r.word 1) (r.word 2) }] } r.seq := by
  rw [State.handleTime, if_neg (not_room_lt_one hq), State.produce_room (s := s) rfl hq]

end

section
variable (s : State) (seq number : Half)

/-- The indication sends a STOP report to its handler (R214). -/
theorem handle_arrive : s.handle (stopReport seq 0 number 0 1) =
    s.handleArrive (stopReport seq 0 number 0 1) :=
  if_pos (stopWord_indication number 0 1)

theorem handle_depart : s.handle (stopReport seq 0 number 0 2) =
    s.handleDepart (stopReport seq 0 number 0 2) :=
  if_neg (ne_of_eq_of_ne (stopWord_indication number 0 2) (by decide))

end

/-! ### What they answer at their handler -/

section
variable {s : State} (h : Safety.AtHandler s) (seq number : Half)
include h

/-- A STOP report that its handler refuses (R47, R106). -/
theorem stop_refused {indication : BitVec 2} {reason : ReportRefusal}
    (hi : indication = 1 ∨ indication = 2)
    (hr : s.handle (stopReport seq 0 number 0 indication) = s.refuse seq reason) :
    s.reportArrives (stopReport seq 0 number 0 indication) =
      State.settle (Safety.refused s seq reason) s :=
  State.arrives_refused h ((encodingOk_stop _ _ _ _ _ hi).2 ⟨rfl, rfl⟩) hr

/-- A STOP report that its handler takes: the stop state, one record and the receipt (R47, R107, R108). -/
theorem stop_taken {indication : BitVec 2} {stop : Option Half} {q : QEntry}
    (hi : indication = 1 ∨ indication = 2)
    (ht : s.handle (stopReport seq 0 number 0 indication) =
      State.take { s with stop := stop, queue := Safety.queued s [q] } seq) :
    s.reportArrives (stopReport seq 0 number 0 indication) = State.settle
      { s with
        stop := stop, queue := Safety.queued s [q], receipt := Safety.takenReceipt s seq 1 } s := by
  rw [State.arrives_taken h ((encodingOk_stop _ _ _ _ _ hi).2 ⟨rfl, rfl⟩) ht rfl rfl
    (List.cons_ne_nil _ _)]
  rfl

theorem stop_badField {indication : BitVec 2} (hi : indication = 1 ∨ indication = 2) {rsv : BitVec 7}
    {bodyRsv : BitVec 14} (hr : rsv ≠ 0 ∨ bodyRsv ≠ 0) :
    s.reportArrives (stopReport seq rsv number bodyRsv indication) =
      State.settle (Safety.refused s seq .badField) s :=
  State.arrives_badField h (mt (encodingOk_stop _ _ _ _ _ hi).1
    fun ⟨hrsv, hbody⟩ => hr.elim (· hrsv) (· hbody))

end

/-- Settles O19: ARRIVE, DEPART and TIME, each refused in the order of its checks or taken with one record. -/
theorem stopAndTimeReports : Obligations.StopAndTimeReports := by
  constructor
  · intro s seq number h arrive depart refusal taken
    have hnumber (indication : BitVec 2) : (stopReport seq 0 number 0 indication).stopNumber = number :=
      stopReport_stopNumber ..
    refine ⟨fun hs => ?_, fun hs hq => ?_, fun hs hq => ?_, fun hs => ?_, fun hs hq => ?_,
      fun hs hq => ?_, fun rsv bodyRsv hr => ⟨?_, ?_⟩⟩
    · exact congrArg Host.Outcome.next (stop_refused h seq number (.inl rfl)
        ((handle_arrive ..).trans (handleArrive_atStop hs)))
    · exact congrArg Host.Outcome.next (stop_refused h seq number (.inl rfl)
        ((handle_arrive ..).trans (handleArrive_full hs hq)))
    · refine congrArg Host.Outcome.next (stop_taken h seq number (.inl rfl) ?_)
      refine (handle_arrive ..).trans ((handleArrive_taken hs hq).trans ?_)
      rw [hnumber]
      rfl
    · exact congrArg Host.Outcome.next (stop_refused h seq number (.inr rfl)
        ((handle_depart ..).trans (handleDepart_elsewhere (by rwa [hnumber]))))
    · exact congrArg Host.Outcome.next (stop_refused h seq number (.inr rfl)
        ((handle_depart ..).trans (handleDepart_full (by rwa [hnumber]) hq)))
    · refine congrArg Host.Outcome.next (stop_taken h seq number (.inr rfl) ?_)
      refine (handle_depart ..).trans ((handleDepart_taken (by rwa [hnumber]) hq).trans ?_)
      rw [hnumber]
      rfl
    · exact congrArg Host.Outcome.next (stop_badField h seq number (.inl rfl) hr)
    · exact congrArg Host.Outcome.next (stop_badField h seq number (.inr rfl) hr)
  · intro s seq high low h
    have hencoded : encodingOk s.cfg (timeReport seq 0 high low) = true :=
      (encodingOk_time ..).2 rfl
    refine ⟨fun hq => ?_, fun hq => ?_, fun rsv hr => ?_⟩
    · rw [exec_time, State.arrives_taken h hencoded (handleTime_taken hq) rfl rfl (List.cons_ne_nil _ _)]
      rfl
    · exact congrArg Host.Outcome.next (State.arrives_refused h hencoded (handleTime_full hq))
    · exact congrArg Host.Outcome.next (State.arrives_badField h (mt (encodingOk_time ..).1 hr))

/-! ### What a READING leaves of the tables (R1, R14, R30, R117)

Every operation of a READING keeps the sizes of the tables and their FREE slots, and takes no record out of
the queue. -/

/-- The account table and the compartment records keep their number, a FREE slot stays FREE, and the queue
does not become shorter. -/
structure KeepsTables (s t : State) : Prop where
  accounts : t.accounts.length = s.accounts.length
  compartments : t.compartments.length = s.compartments.length
  free : ∀ slot : Nat, s.accounts[slot]? = some Entry.free → t.accounts[slot]? = some Entry.free
  queue : s.queue.entries.length ≤ t.queue.entries.length

namespace KeepsTables

theorem refl (s : State) : KeepsTables s s := ⟨rfl, rfl, fun _ h => h, Nat.le_refl _⟩

theorem trans {s t u : State} (h : KeepsTables s t) (k : KeepsTables t u) : KeepsTables s u where
  accounts := k.accounts.trans h.accounts
  compartments := k.compartments.trans h.compartments
  free := fun slot hs => k.free slot (h.free slot hs)
  queue := h.queue.trans k.queue

theorem fold {α : Type} {f : State → α → State} (hf : ∀ s a, KeepsTables s (f s a)) (l : List α)
    (s : State) : KeepsTables s (l.foldl f s) := by
  induction l generalizing s with
  | nil => exact refl s
  | cons a l ih => exact (hf s a).trans (ih (f s a))

variable {s t : State}

/-- An operation that leaves the accounts, the number of compartments and the queue's records. -/
theorem of_eq (h : KeepsTables s t) {u : State} (ha : u.accounts = t.accounts)
    (hc : u.compartments.length = t.compartments.length) (hq : u.queue.entries = t.queue.entries) :
    KeepsTables s u :=
  h.trans ⟨congrArg List.length ha, hc, fun _ hs => ha ▸ hs, Nat.le_of_eq (congrArg List.length hq.symm)⟩

theorem latch (h : KeepsTables s t) (c : Cause) : KeepsTables s (t.latch c) :=
  h.of_eq rfl rfl rfl

theorem latchIf (h : KeepsTables s t) (b : Bool) (c : Cause) : KeepsTables s (t.latchIf b c) :=
  h.of_eq (by simp) (by simp) (by simp)

theorem judgeUnitOff (h : KeepsTables s t) : KeepsTables s t.judgeUnitOff :=
  h.of_eq (by simp) (by simp [State.judgeUnitOff]) (by simp)

theorem take (h : KeepsTables s t) (seq : Half) : KeepsTables s (t.take seq) :=
  h.of_eq (by simp) (by simp) (by simp)

/-- A record joins the queue, or its loss touches entries aboard alone (R117, R119). -/
theorem produce (h : KeepsTables s t) (q : QEntry) : KeepsTables s (t.produce q) := by
  refine h.trans ?_
  unfold State.produce
  split
  · exact ⟨rfl, rfl, fun _ hs => hs, by simp⟩
  · refine ⟨by simp [State.lose], by simp, fun slot hs => ?_, by simp⟩
    have hfree : q.afterLoss slot .free = .free := by
      unfold QEntry.afterLoss
      split <;> rfl
    simp [State.lose, hs, hfree]

/-- An entry is put in a slot that is not FREE. -/
theorem setAccount (h : KeepsTables s t) {slot : Nat} (hs : t.account slot ≠ .free) (e : Entry) :
    KeepsTables s (t.setAccount slot e) := by
  refine h.trans ⟨by simp, rfl, fun k hk => ?_, Nat.le_refl _⟩
  have hne : slot ≠ k := by
    rintro rfl
    exact hs (State.account_of_getElem? hk)
  rw [State.setAccount_accounts, List.getElem?_set_ne hne, hk]

theorem queueEnded (h : KeepsTables s t) (slot : Nat) (reference : BitVec 64)
    (ended : Option Excursion) : KeepsTables s (t.queueEnded slot reference ended) := by
  cases ended with
  | none => exact h
  | some x => exact h.produce _

end KeepsTables

theorem updateCompartment_keepsTables (s : State) (r : Report) (k : Nat) :
    KeepsTables s (s.updateCompartment r k) := by
  have record (c : Compartment) :
      KeepsTables s { s with compartments := s.compartments.set k c } :=
    (KeepsTables.refl s).of_eq rfl List.length_set rfl
  cases h : s.compartments[k]? with
  | none =>
    rw [State.updateCompartment, h]
    exact .refl s
  | some c =>
    cases hd : doubtChange s.cfg.doubtCount c.doubt c.runs (turned s r k c).runs with
    | none =>
      rw [updateCompartment_steady h hd]
      exact record _
    | some d =>
      rw [updateCompartment_doubt h hd]
      exact ((record _).latchIf _ _).produce _

theorem updateCompartments_keepsTables (s : State) (r : Report) :
    KeepsTables s (s.updateCompartments r) :=
  (KeepsTables.fold (fun t k => updateCompartment_keepsTables t r k) _ s).judgeUnitOff

theorem searchGaps_keepsTables (s : State) (previous : List (Option Nat)) :
    KeepsTables s (s.searchGaps previous) := by
  refine KeepsTables.fold (fun t k => ?_) _ s
  unfold State.searchGap
  split
  · split
    · exact .produce (.refl t) _
    · exact .refl t
  · exact .refl t

theorem evaluateSlot_keepsTables (s : State) (slot : Nat) : KeepsTables s (s.evaluateSlot slot) := by
  rcases s.evaluateSlot_cases slot with h | ⟨c, t, k, e, hc, -, -, h⟩
  · rw [h]
    exact .refl s
  · have hset (x : Entry) : KeepsTables s (s.setAccount slot x) :=
      .setAccount (.refl s) (by simp [hc]) x
    rw [h]
    unfold State.takeEvaluation
    split
    · exact (((hset _).latch _).queueEnded _ _ _).produce _
    · exact (hset _).queueEnded _ _ _

theorem walkSlot_keepsTables (s : State) (slot : Nat) : KeepsTables s (s.walkSlot slot) := by
  unfold State.walkSlot
  split
  · exact .refl s
  · exact .refl s
  · exact evaluateSlot_keepsTables s slot
  · next c d hc =>
    split
    · exact .refl s
    · split
      · have hopen (x : Entry) (q : QEntry) : KeepsTables s ((s.setAccount slot x).produce q) :=
          .produce (.setAccount (.refl s) (by simp [hc]) x) q
        exact (hopen _ _).trans (evaluateSlot_keepsTables _ slot)
      · exact .refl s

theorem walk_keepsTables (s : State) : KeepsTables s s.walk :=
  (KeepsTables.fold walkSlot_keepsTables _ s).judgeUnitOff

theorem handleReading_keepsTables (s : State) (r : Report) : KeepsTables s (s.handleReading r) := by
  unfold State.handleReading
  split
  · have haccept : KeepsTables s (s.acceptReading r.readingSeq) := (KeepsTables.refl s).of_eq rfl rfl rfl
    exact (((haccept.trans (updateCompartments_keepsTables _ r)).trans
      (searchGaps_keepsTables _ _)).trans (walk_keepsTables _)).take _
  · exact (KeepsTables.refl s).of_eq (by simp) (by simp) (by simp)

/-- With records in the queue a taken report leaves the recorded-through sequence (R108). -/
theorem take_recordedThrough {s : State} (h : s.queue.entries ≠ []) (seq : Half) :
    (s.take seq).receipt.recordedThrough = s.receipt.recordedThrough := by
  simp [State.take, h]

theorem handleReading_recordedThrough {s : State} (h : s.queue.entries ≠ []) (r : Report) :
    (s.handleReading r).receipt.recordedThrough = s.receipt.recordedThrough := by
  unfold State.handleReading
  split
  · have hkept := ((updateCompartments_keepsTables (s.acceptReading r.readingSeq) r).trans
      (searchGaps_keepsTables _ (s.compartments.map Compartment.lastPresent))).trans
        (walk_keepsTables _)
    rw [take_recordedThrough]
    · simp
    · exact List.ne_nil_of_length_pos (Nat.lt_of_lt_of_le (List.length_pos_iff.2 h) hkept.queue)
  · simp

/-- A READING at its handler goes to the handler's own check, or is refused BAD_FIELD (R105). -/
theorem exec_reading_cases {s : State} (h : Safety.AtHandler s) (seq : Half) (rsv : BitVec 7)
    (body : List Word) : ∃ u, exec (.reading seq rsv body) s = .next (u.settle s) ∧
      (u = s.refuse seq .badField ∨
        u = s.handleReading { seq := seq, kind := .reading, rsv := rsv, body := body }) := by
  by_cases he : encodingOk s.cfg { seq := seq, kind := .reading, rsv := rsv, body := body } = true
  · exact ⟨_, congrArg Host.Outcome.next (State.reportArrives_handle h he), .inr rfl⟩
  · exact ⟨_, congrArg Host.Outcome.next (State.reportArrives_badField h (by simpa using he)), .inl rfl⟩

/-- Settles O22: the frame of the handler, and what every operation of a READING keeps of the tables. -/
theorem readingFrame : Obligations.ReadingFrame := by
  intro s t seq rsv body h ht
  obtain ⟨u, hu, hcases⟩ := exec_reading_cases h seq rsv body
  obtain rfl : u.settle s = t := by rw [hu] at ht; injection ht
  rcases hcases with rfl | rfl
  · simp
  · have hkept := handleReading_keepsTables s { seq := seq, kind := .reading, rsv := rsv, body := body }
    simp only [State.settle_frame, State.handleReading_frame, true_and]
    exact ⟨fun hq => handleReading_recordedThrough hq _, hkept.accounts, hkept.compartments,
      hkept.free⟩

end Sys2Proof
end

section
/-! The release of the reset input (R204, R205) and the cold-start path (R206). -/

namespace Sys2Proof

open Machine

/-! ### The reset input released -/

section
variable {s : State}

/-- An input that is asserted is released, and the operation settles (R204). -/
theorem exec_resetRelease (h : s.supply.resetPin = true) :
    exec .resetRelease s = .next (s.releaseReset.settlePorts s) := if_pos h

/-- The reset input low again, all else standing. -/
def pinLow (s : State) : State := { s with supply := { s.supply with resetPin := false } }

/-- With the retained valid flag set the restart ends in RUNNING (R204). -/
theorem releaseReset_valid (h : s.supply.part = .starting .resetLine)
    (hv : s.supply.retainedValid = true) : s.releaseReset = (pinLow s).resetReturn :=
  (if_pos h).trans (if_pos hv)

/-- With it unset the cold-start path runs again from its setup load (R205). -/
theorem releaseReset_rerun (h : s.supply.part = .starting .resetLine)
    (hv : s.supply.retainedValid = false) : s.releaseReset =
      State.rerun { pinLow s with supply := { (pinLow s).supply with resetTime := none } } :=
  (if_pos h).trans (if_neg (by simp [hv]))

/-- Where no restart waits the line alone changes (R204). -/
theorem releaseReset_elsewhere (h : s.supply.part ≠ .starting .resetLine) :
    s.releaseReset = pinLow s := if_neg h

end

/-- The rewrite begun and the front entry taken behind the held access (R204 step 3). -/
theorem Machine.State.runningAgain_eq (s : State) : s.runningAgain =
    State.takeEntry
      { (s.enter .running).pump with
        status := { (s.enter .running).pump.status with demand := true, rewrite := some .requested }
        arbiter := { (s.enter .running).pump.arbiter with status := true } } := rfl

/-- The restart at a release: the RESET record with the assertion time, RESTART latched, and RUNNING (R204). -/
theorem Machine.State.resetReturn_eq {s : State} {t : Nat} (h : s.supply.resetTime = some t) :
    s.resetReturn = State.runningAgain
      { (s.produce (resetRecord s.now t)).latch .restart with
        supply := { (s.produce (resetRecord s.now t)).supply with resetTime := none } } := by
  rw [State.resetReturn, h]
  rfl

/-- Settles O59: the restart that ends, the one that runs again from the load, and the line alone. -/
theorem resetReleased : Obligations.ResetReleased := by
  intro s hpin becomes low
  refine ⟨fun t hp hv ht => ?_, fun hp hv => ?_, fun hp => ?_⟩
  · intro u v
    change exec .resetRelease s = _
    rw [exec_resetRelease hpin, releaseReset_valid hp hv, State.resetReturn_eq (s := pinLow s) ht,
      State.runningAgain_eq]
    rfl
  · change exec .resetRelease s = _
    rw [exec_resetRelease hpin, releaseReset_rerun hp hv]
    rfl
  · change exec .resetRelease s = _
    rw [exec_resetRelease hpin, releaseReset_elsewhere hp]
    rfl

/-! ### The cold-start path -/

/-- The state that a cold start leaves (R166, R206). Kept are memory, the levels of the lines, the upstream
port, the queue of commands and the counter of free values; the rest is cleared, and the load asks for its
first read. -/
theorem Machine.State.coldStart_eq (s : State) (outcome : ColdOutcome) : s.coldStart outcome =
    { s with
      clock := { seconds := 0, sub := 0 }
      supply := { s.supply with
        part := .starting .coldLoad, domainHeld := true, retainedValid := false,
        coldOutcome := some outcome, powerLoss := none }
      accounts := List.replicate 48 .free
      compartments := []
      stop := none
      cadence := Cadence.fresh
      assembler := Assembler.empty
      receipt := Receipt.empty
      queue := { entries := [], loss := none }
      writer := { state := .idle, log := none, chain := checkStart, nearFull := false }
      setup := { inForce := none, lastResult := .inFlight, load := some [], heldRecord := false }
      scanner := none
      alert := { s.alert with latched := 0, counters := Counters.zero, echo := none, view := none }
      status := { gen := 0, demand := false, rewrite := none }
      arbiter := { Arbiter.idle with reader := [.setupLoader] }
      rejected := none } := rfl

/-- Settles O3: the fields of the state that the path leaves, and of the state right after reset. -/
theorem coldStartClears : Obligations.ColdStartClears := by
  constructor
  · intro s outcome
    rw [State.coldStart_eq]
    and_intros <;> rfl
  · and_intros <;> rfl

end Sys2Proof
end

section
/-! The cadence tracker at an accepted reading and at its expected-arrival deadline (R52 to R56). -/

namespace Sys2Proof

open Machine

/-! ### An accepted reading (R52, R55) -/

/-- The first reading of a tracker skips nothing (R55). -/
theorem Machine.Cadence.skip_first {c : Cadence} (h : c.lastSeq = none) (seq : Half) :
    c.skip seq = 0 := by
  simp only [Cadence.skip, h]

/-- Behind a last reading the skip is d - 1 - miss count over the integers, and 0 below 0 (R55). -/
theorem Machine.Cadence.skip_later {c : Cadence} {last : Half} (h : c.lastSeq = some last) (seq : Half) :
    c.skip seq = (((seq - last).toNat : Int) - 1 - (c.miss : Int)).toNat := by
  simp only [Cadence.skip, h]
  omega

/-- CADENCE_LOST ends at LOCKED and stands as it did elsewhere (R56). -/
theorem Machine.Cadence.accept_lostStanding (c : Cadence) (seq : Half) (now reach : Nat) :
    (c.accept seq now reach).lostStanding =
      if c.state.onReading = .locked then false else c.lostStanding := by
  change (c.lostStanding && c.state.onReading != .locked) = _
  split
  next h => simp [h]
  next h => simp [h]

/-- The tracker after an accepted reading, and the counter that took the skip. -/
theorem Machine.State.acceptReading_eq (s : State) (seq : Half) :
    s.acceptReading seq =
      { s with
        cadence :=
          { state := s.cadence.state.onReading
            deadline := some (min (s.clock.seconds + (s.cfg.period + s.cfg.window)) 4294967295)
            miss := 0
            lastSeq := some seq
            lostStanding :=
              if s.cadence.state.onReading = .locked then false else s.cadence.lostStanding }
        alert := { s.alert with
          counters := { s.alert.counters with
            missedReadings :=
              min (s.alert.counters.missedReadings + s.cadence.skip seq) 65535 } } } := by
  rw [← s.cadence.accept_lostStanding seq s.now s.cfg.reach]
  rfl

/-! ### The expected-arrival deadline (R53) -/

section
variable {c : Cadence} (d period : Nat)

theorem Machine.Cadence.expire_confirm (h : c.state = .confirm) :
    c.expire d period = { c with state := .acquire, miss := 1, deadline := none } := by
  simp only [Cadence.expire, h]

/-- A first or second miss moves the deadline by one period (R53). -/
theorem Machine.Cadence.expire_missed (h : c.state = .locked) (hm : c.miss < 2) :
    c.expire d period =
      { c with miss := c.miss + 1, deadline := some (min (d + period) 4294967295) } := by
  simp only [Cadence.expire, h, hm, if_true]
  rfl

/-- The third miss is the loss of the cadence (R53). -/
theorem Machine.Cadence.expire_lost (h : c.state = .locked) (hm : c.miss = 2) :
    c.expire d period = { c with state := .lost, miss := 3, deadline := none, lostStanding := true } := by
  simp [Cadence.expire, h, hm]

end

/-- A deadline that the clock has reached: one missed reading counted, the tracker's step, and the cause
latched where the step leads from LOCKED to LOST (R53, R56). -/
theorem exec_expectedArrivalDeadline_due {s : State} {d : Nat} {c : Cadence} {lost : Bool}
    (h : s.cadence.deadline = some d) (hd : s.reached d = true)
    (hc : s.cadence.expire d s.cfg.period = c)
    (hlost : (s.cadence.state == .locked && c.state == .lost) = lost) :
    exec .expectedArrivalDeadline s = .next (State.settle
      { s with
        cadence := c
        alert := { s.alert with
          latched := Safety.latchedIf s lost .cadenceLost
          counters := { s.alert.counters with
            missedReadings := min (s.alert.counters.missedReadings + 1) 65535 } } } s) := by
  change Host.Outcome.next (s.expireCadence.settle s) = _
  simp only [State.expireCadence, h, hd, if_true, State.latchIf_eq, hc, hlost]
  rfl

/-- Settles O20: the step at a reading, and at a deadline in CONFIRM, in LOCKED and at the third miss. -/
theorem cadenceSteps : Obligations.CadenceSteps := by
  constructor
  · intro s seq skip next
    have hskip : s.cadence.skip seq = skip := by
      cases h : s.cadence.lastSeq with
      | none => simp only [skip, h, Cadence.skip_first h]
      | some last => simp only [skip, h, Cadence.skip_later h]
    have hnext : s.cadence.state.onReading = next := by
      cases h : s.cadence.state <;> simp only [next, h, CadenceState.onReading]
    rw [State.acceptReading_eq, hskip, hnext]
  · intro s d hdeadline hd hp after
    have hdue : s.reached d = true := State.reached_iff.2 ⟨hp, hd⟩
    refine ⟨fun hs => ?_, fun hs hm => ?_, fun hs hm => ?_⟩
    · exact exec_expectedArrivalDeadline_due hdeadline hdue (Cadence.expire_confirm d _ hs)
        (lost := false) (by simp)
    · exact exec_expectedArrivalDeadline_due hdeadline hdue (Cadence.expire_missed d _ hs hm)
        (lost := false) (by simp [hs])
    · exact exec_expectedArrivalDeadline_due hdeadline hdue (Cadence.expire_lost d _ hs hm)
        (lost := true) (by simp [hs])

end Sys2Proof
end

section
/-! The search for missed time: the turn of one compartment, and the turns in order (R61, R62). -/

namespace Sys2Proof

open Machine

/-- The span from `p` to `now` shares a second with a power-loss interval that has ended (R62). -/
def sharesPowerLoss (loss : Option PowerLoss) (p now : Nat) : Prop :=
  ∃ l r, loss = some { loss := l, ret := some r } ∧ l ≤ now ∧ p ≤ r

theorem gapCause_power {loss : Option PowerLoss} {p now : Nat} (h : sharesPowerLoss loss p now) :
    gapCause loss p now = .power := by
  obtain ⟨l, r, rfl, hl, hr⟩ := h
  exact if_pos ⟨hl, hr⟩

/-- Without a common second the cause is MISSED, as it is while the return time is absent (R62). -/
theorem gapCause_missed {loss : Option PowerLoss} {p now : Nat} (h : ¬sharesPowerLoss loss p now) :
    gapCause loss p now = .missed := by
  match loss with
  | none => rfl
  | some { loss := l, ret := none } => rfl
  | some { loss := l, ret := some r } => exact if_neg fun hlr => h ⟨l, r, rfl, hlr⟩

section
variable {s : State} {k : Nat} {c : Compartment} {previous : Option Nat}

/-- Nothing is missed by an absent reading, without an earlier one, or within period + window (R61). -/
theorem searchGap_nothing (hc : s.compartments[k]? = some c)
    (h : c.effective = none ∨ previous = none ∨
      ∃ p, previous = some p ∧ s.clock.seconds - p ≤ s.cfg.period + s.cfg.window) :
    s.searchGap previous k = s := by
  rcases h with he | rfl | ⟨p, rfl, hp⟩
  · cases previous <;> simp [State.searchGap, hc, he]
  · simp only [State.searchGap, hc]
  · have hreach : ¬ s.cfg.reach < s.now - p := Nat.not_lt.2 hp
    simp [State.searchGap, hc, hreach]

/-- A present reading beyond period + window queues one GAP record (R61). -/
theorem searchGap_missed {p : Nat} (hc : s.compartments[k]? = some c) (he : c.effective ≠ none)
    (hp : s.cfg.period + s.cfg.window < s.clock.seconds - p) :
    s.searchGap (some p) k = s.produce
      { time := s.clock.seconds, slot := none
        body := .gap k p s.clock.seconds (gapCause s.supply.powerLoss p s.clock.seconds) } := by
  have hsome : c.effective.isSome = true := Option.isSome_iff_ne_none.2 he
  have hreach : s.cfg.reach < s.now - p := hp
  simp only [State.searchGap, hc, hsome, hreach, decide_true, Bool.and_self, if_true]
  rfl

end

/-- Settles O23: the turn that queues nothing, the GAP record with either cause, and the turns in order. -/
theorem missedTimeRecorded : Obligations.MissedTimeRecorded := by
  refine ⟨fun s k c previous hc => ⟨searchGap_nothing hc, ?_⟩, fun s previous => ?_⟩
  · rintro p he rfl hp
    refine ⟨fun hshares => ?_, fun hapart => ?_⟩
    · rw [searchGap_missed hc he hp, gapCause_power hshares]
    · rw [searchGap_missed hc he hp, gapCause_missed hapart]
  · simp only [State.searchGaps, List.getD_eq_getElem?_getD]

end Sys2Proof
end

section
/-! What one evaluation charges, to the totals and to the current excursion (R59, R74 to R81, R85, R88). -/

namespace Sys2Proof

open Machine

/-! ### The totals of one evaluation (R59, R74, R77 to R79, R81) -/

/-- The amount an evaluation charges: excess times covered time (R77). -/
def chargedAmount (cfg : Setup) (b : Band) (now : Nat) (e : Effective) (t : Tracking) : Nat :=
  excess b e * coveredTime t now cfg.reach

/-- What an evaluation makes of the totals: the uncovered time, and the amount parted between allowance dose
and break dose (R74, R77, R78, R81). -/
theorem evaluate_totals (cfg : Setup) (b : Band) (now : Nat) (e : Effective) (active : Bool) (v : Verdict)
    (t : Tracking) :
    let amount := chargedAmount cfg b now e t
    let allowed := allowedPart b t.totals active amount
    (evaluate cfg b now e active v t).tracking.totals =
      t.totals.charge e (uncoveredTime t now cfg.reach) (excursionCount t (excess b e)) allowed
        (amount - allowed) := rfl

/-! ### The current excursion over one evaluation (R75, R76, R78, R80, R85) -/

/-- An excursion that starts now, with nothing charged to it (R76). -/
def freshExcursion (now : Nat) : Excursion :=
  { start := now, peak := 0, allowed := 0, brk := 0, unallowed := 0 }

section
variable {x : Nat} (t : Tracking) (now : Nat)

/-- Excess goes on with the current excursion, or starts one (R75, R76). -/
theorem startExcursion_of_pos (hx : 0 < x) :
    startExcursion t now x = some (t.excursion.getD (freshExcursion now)) := by
  cases h : t.excursion with
  | none => simp only [startExcursion, h, hx, if_true]; rfl
  | some y => simp only [startExcursion, h, Option.getD_some]

theorem startExcursion_zero : startExcursion t now 0 = t.excursion := by
  cases h : t.excursion <;> simp [startExcursion, h]

/-- Only excess where no excursion stood counts one (R75). -/
theorem excursionCount_of_pos (hx : 0 < x) : excursionCount t x =
    if t.excursion = none then min (t.totals.excursions + 1) 255 else t.totals.excursions := by
  simp [excursionCount, hx]

theorem excursionCount_zero : excursionCount t 0 = t.totals.excursions := by
  simp [excursionCount]

end

/-- A charge of nothing leaves an excursion as it stands, within the largest value. -/
theorem charge_nothing (y : Excursion) : y.charge 0 0 0 0 =
    { y with
      allowed := min y.allowed 4294967295, brk := min y.brk 4294967295
      unallowed := min y.unallowed 4294967295 } := by
  simp [Excursion.charge, satAdd, maxWord]

theorem allowedPart_zero (b : Band) (t : Totals) (allowance : Bool) : allowedPart b t allowance 0 = 0 := by
  simp [allowedPart, allowanceTakes]

section
variable (cfg : Setup) (b : Band) (now : Nat) (e : Effective) (active : Bool) (v : Verdict) (t : Tracking)

/-- An evaluation with excess ends no excursion and charges the current one, covered time without an active
allowance being unallowed (R76 to R78, R80). -/
theorem evaluate_excursion_of_pos (hx : 0 < excess b e) :
    let r := evaluate cfg b now e active v t
    let amount := chargedAmount cfg b now e t
    let allowed := allowedPart b t.totals active amount
    r.ended = none ∧ r.tracking.excursion = some
      ((t.excursion.getD (freshExcursion now)).charge (excess b e) allowed (amount - allowed)
        (if active then 0 else coveredTime t now cfg.reach)) := by
  have hne : excess b e ≠ 0 := Nat.ne_of_gt hx
  have hunallowed : (if 0 < excess b e && !active then coveredTime t now cfg.reach else 0) =
      if active then 0 else coveredTime t now cfg.reach := by
    cases active <;> simp [hx]
  refine ⟨if_neg hne, (if_neg hne).trans ?_⟩
  rw [startExcursion_of_pos t now hx, hunallowed]
  rfl

/-- An evaluation without excess ends the excursion with nothing charged to it (R80, R85). -/
theorem evaluate_excursion_zero (hx : excess b e = 0) :
    let r := evaluate cfg b now e active v t
    r.tracking.excursion = none ∧ r.ended = t.excursion.map fun y => y.charge 0 0 0 0 := by
  refine ⟨if_pos hx, (if_pos hx).trans ?_⟩
  simp only [hx, Nat.zero_mul, allowedPart_zero, startExcursion_zero, Nat.lt_irrefl, decide_false,
    Bool.false_and, Bool.false_eq_true, if_false]

end

/-- Settles O25: the totals and peaks, the excursion under excess, and the one that excess 0 ends. -/
theorem evaluationCharges : Obligations.EvaluationCharges := by
  constructor
  · intro cfg b now e active v t r interval covered amount room takes allowed sat
    have htotals := evaluate_totals cfg b now e active v t
    refine ⟨congrArg Totals.gap htotals, congrArg Totals.allowanceDose htotals,
      congrArg Totals.breakDose htotals, (congrArg Totals.peakWarm htotals).trans ?_,
      (congrArg Totals.peakCold htotals).trans ?_, rfl, rfl, rfl⟩
    · change peakHigh t.totals.peakWarm e.warm = _
      cases t.totals.peakWarm <;> rfl
    · change peakLow t.totals.peakCold e.cold = _
      cases t.totals.peakCold <;> rfl
  · intro cfg b now e active v t r x covered takes allowed before sat
    have htotals := evaluate_totals cfg b now e active v t
    refine ⟨fun hx => ?_, fun hx => ?_, fun hx => ?_⟩
    · exact evaluate_excursion_of_pos cfg b now e active v t hx
    · exact (congrArg Totals.excursions htotals).trans (excursionCount_of_pos t hx)
    · obtain ⟨hnone, hended⟩ := evaluate_excursion_zero cfg b now e active v t hx
      have hcount : r.tracking.totals.excursions = excursionCount t x :=
        congrArg Totals.excursions htotals
      refine ⟨hnone, by rw [hcount, hx, excursionCount_zero], hended.trans ?_⟩
      simp only [charge_nothing]
      rfl

end Sys2Proof
end

section
/-! The excess at a reading (R69), and the break tests of one evaluation in their order (R71, R82 to R84). -/

namespace Sys2Proof

open Machine

/-! ### The excess at a reading (R69) -/

section
variable {b : Band} {e : Effective}

/-- Above the band: the warm side gives the excess (R69). -/
theorem excess_warm (hw : b.high < e.warm) : (excess b e : Int) = e.warm - b.high := by
  rw [excess, if_pos hw, Int.toNat_sub_of_le hw.le]

/-- Below the band only: the cold side gives the excess (R69). -/
theorem excess_cold (hw : e.warm ≤ b.high) (hc : e.cold < b.low) :
    (excess b e : Int) = b.low - e.cold := by
  rw [excess, if_neg hw.not_gt, if_pos hc, Int.toNat_sub_of_le hc.le]

/-- Within the band there is no excess (R69). -/
theorem excess_within (hw : e.warm ≤ b.high) (hc : b.low ≤ e.cold) : excess b e = 0 := by
  rw [excess, if_neg hw.not_gt, if_neg hc.not_gt]

end

/-- Settles O24: the warm side, the cold side, and the band itself. -/
theorem excessFormed : Obligations.ExcessFormed :=
  fun _ _ => ⟨excess_warm, excess_cold, excess_within⟩

/-! ### One break test (R7, R84) -/

section
variable {v : Verdict} {found : Bool} {cause : BrokenCause}

/-- A BROKEN verdict keeps its cause at a test (R7). -/
theorem breakIf_broken (c : BrokenCause) : (Verdict.broken c).breakIf found cause = .broken c := by
  cases found <;> rfl

/-- A test that finds no break leaves the verdict as it stands (R84). -/
theorem breakIf_not_found (h : ¬found = true) : v.breakIf found cause = v := if_neg h

/-- A test that finds a break gives its cause to a verdict that is not BROKEN (R7, R84). -/
theorem breakIf_found (hv : ∀ c, v ≠ .broken c) (h : found = true) :
    v.breakIf found cause = .broken cause := by
  rw [Verdict.breakIf, if_pos h]
  cases v with
  | clean => rfl
  | unproven u => rfl
  | broken c => exact absurd rfl (hv c)

end

/-! ### What the tests judge (R71, R82, R83) -/

theorem hardBreach_iff (b : Band) (e : Effective) :
    hardBreach b e = true ↔ b.hardHigh < e.warm ∨ e.cold < b.hardLow := by
  simp [hardBreach]

theorem overTime_iff (b : Band) (current : Option Excursion) :
    overTime b current = true ↔ ∃ y, current = some y ∧ b.timeLimit < y.unallowed := by
  cases current <;> simp [overTime]

section
variable (cfg : Setup) (b : Band) (now : Nat) (e : Effective) (active : Bool) (v : Verdict) (t : Tracking)

/-- The current excursion with this evaluation's charges, as the duration test meets it: before excess 0
ends it (R72, steps 4 to 8). -/
def chargedExcursion : Option Excursion :=
  let x := excess b e
  let amount := chargedAmount cfg b now e t
  let allowed := allowedPart b t.totals active amount
  (startExcursion t now x).map fun y => y.charge x allowed (amount - allowed)
    (if 0 < x && !active then coveredTime t now cfg.reach else 0)

/-- The charged excursion is the one the evaluation goes on with, or the one it ends (R80, R85). -/
theorem chargedExcursion_eq_some_iff (y : Excursion) :
    let r := evaluate cfg b now e active v t
    r.tracking.excursion = some y ∨ r.ended = some y ↔ chargedExcursion cfg b now e active t = some y := by
  intro r
  have hkept : r.tracking.excursion =
      if excess b e = 0 then none else chargedExcursion cfg b now e active t := rfl
  have hended : r.ended = if excess b e = 0 then chargedExcursion cfg b now e active t else none := rfl
  rw [hkept, hended]
  by_cases hx : excess b e = 0 <;> simp [hx]

/-- The duration test judges the excursion that goes on or ends (R83). -/
theorem overTime_chargedExcursion_iff :
    let r := evaluate cfg b now e active v t
    overTime b (chargedExcursion cfg b now e active t) = true ↔
      ∃ y, (r.tracking.excursion = some y ∨ r.ended = some y) ∧ b.timeLimit < y.unallowed := by
  simp only [overTime_iff, chargedExcursion_eq_some_iff]

/-- The verdict of an evaluation: the tests for hard limit, dose and duration, one on the other's verdict
(R84). -/
theorem evaluate_verdict :
    let r := evaluate cfg b now e active v t
    r.verdict = ((v.breakIf (hardBreach b e) .hardLimit).breakIf
      (b.doseBudget < r.tracking.totals.breakDose) .dose).breakIf
        (overTime b (chargedExcursion cfg b now e active t)) .duration := rfl

end

/-- Settles O26: each test meets the verdict as it came, unless the verdict is BROKEN by then. -/
theorem breaksInOrder : Obligations.BreaksInOrder := by
  intro cfg b now e active v t r hard dose duration
  have hverdict := evaluate_verdict cfg b now e active v t
  have hhard : hardBreach b e = true ↔ hard := hardBreach_iff b e
  have hdose : decide (b.doseBudget < r.tracking.totals.breakDose) = true ↔ dose := decide_eq_true_iff
  have hduration : overTime b (chargedExcursion cfg b now e active t) = true ↔ duration :=
    overTime_chargedExcursion_iff cfg b now e active v t
  refine ⟨?broken, fun hopen => ⟨?hardLimit, ?dose, ?duration, ?none⟩⟩
  case broken =>
    rintro c rfl
    rw [hverdict, breakIf_broken, breakIf_broken, breakIf_broken]
  case hardLimit =>
    intro h
    rw [hverdict, breakIf_found hopen (hhard.2 h), breakIf_broken, breakIf_broken]
  case dose =>
    intro h hd
    rw [hverdict, breakIf_not_found (mt hhard.1 h), breakIf_found hopen (hdose.2 hd), breakIf_broken]
  case duration =>
    intro h hd ht
    rw [hverdict, breakIf_not_found (mt hhard.1 h), breakIf_not_found (mt hdose.1 hd),
      breakIf_found hopen (hduration.2 ht)]
  case none =>
    intro h hd ht
    rw [hverdict, breakIf_not_found (mt hhard.1 h), breakIf_not_found (mt hdose.1 hd),
      breakIf_not_found (mt hduration.1 ht)]

end Sys2Proof
end

section
/-! The upstream port at the end of an operation (R142, R157), the hold and the judgement of a host access
(R103, R145, R153), and the narrow write to the report window (R100, R149). -/

namespace Sys2Proof

open Machine

/-! ### The tests of the judgement (R145) -/

/-- A write into the report window is held back by the report that waits (R103, R145 test 2). -/
def WaitsForReport (s : State) (a : HostAccess) : Prop :=
  a.dir = .write ∧ s.assembler.waiting ≠ none ∧
    ∃ c, s.setup.inForce = some c ∧ c.windowBase ≤ a.addr.toNat ∧ a.addr.toNat < c.windowBase + 128

theorem isStarting_iff {p : PartState} : p.isStarting = true ↔ ∃ v, p = .starting v := by
  cases p <;> simp [PartState.isStarting]

theorem inWindow_iff {setup : Option Setup} {n : Nat} : inWindow setup n = true ↔
    ∃ c, setup = some c ∧ c.windowBase ≤ n ∧ n < c.windowBase + 128 := by
  cases setup <;> simp [inWindow, inBlock]

theorem beyondCapacity_iff {setup : Option Setup} {n : Nat} : beyondCapacity setup n = true ↔
    ∃ c, setup = some c ∧ c.capacity * 1048576 ≤ n := by
  cases setup with
  | none => simp [beyondCapacity]
  | some c =>
    rw [beyondCapacity, decide_eq_true_iff]
    simp [Setup.capacityBytes]

theorem aligned_iff {a : HostAccess} : a.aligned = true ↔ a.addr.toNat % a.width.bytes = 0 := by
  simp [HostAccess.aligned]

theorem mustHold_iff {s : State} {a : HostAccess} : s.mustHold a = true ↔
    (∃ v, s.supply.part = .starting v) ∨ WaitsForReport s a := by
  simp only [State.mustHold, WaitsForReport, Bool.or_eq_true, Bool.and_eq_true, beq_iff_eq,
    isStarting_iff, inWindow_iff, Option.isSome_iff_ne_none]
  tauto

section
variable {s : State} {a : HostAccess}

theorem judge_held (h : s.mustHold a = true) : s.judge a = s.hold a := if_pos h

theorem judge_misaligned (hold : ¬s.mustHold a = true) (ha : ¬a.aligned = true) :
    s.judge a = Safety.rejected s a .misaligned := by
  rw [State.judge, if_neg hold, if_pos (by simpa using ha)]
  rfl

theorem judge_beyond (hold : ¬s.mustHold a = true) (ha : a.aligned = true)
    (hb : beyondCapacity s.setup.inForce a.addr.toNat = true) :
    s.judge a = Safety.rejected s a .beyondCapacity := by
  rw [State.judge, if_neg hold, if_neg (by simp [ha]), if_pos hb]
  rfl

theorem judge_read (hold : ¬s.mustHold a = true) (ha : a.aligned = true)
    (hb : ¬beyondCapacity s.setup.inForce a.addr.toNat = true) (hd : a.dir = .read) :
    s.judge a = Safety.waitsAtMemory s a .read := by
  rw [State.judge, if_neg hold, if_neg (by simp [ha]), if_neg hb, hd]
  rfl

theorem judge_narrow (hold : ¬s.mustHold a = true) (ha : a.aligned = true)
    (hb : ¬beyondCapacity s.setup.inForce a.addr.toNat = true) (hd : a.dir = .write)
    (hw : a.width ≠ .four) :
    s.judge a = s.judgeNarrowWrite a (regionOf s.setup.inForce a.addr.toNat) := by
  rw [State.judge, if_neg hold, if_neg (by simp [ha]), if_neg hb, hd]
  cases h : a.width with
  | four => exact absurd h hw
  | two => rfl
  | one => rfl

end

/-! ### Where a judged access stands (R142, R145) -/

/-- The port carries no held access. -/
def NoneHeld (s : State) : Prop := ∀ a, s.port.current ≠ some { acc := a, phase := .held }

section
variable (s : State) (a : HostAccess)

theorem noneHeld_answer (r : Response) : NoneHeld (s.answer a r) := by
  simp [NoneHeld, State.answer]

theorem noneHeld_askUpstream (job : HostJob) : NoneHeld (s.askUpstream a job) := by
  simp [NoneHeld, State.askUpstream]

theorem noneHeld_judgeFullWrite (r : Region) : NoneHeld (s.judgeFullWrite a r) := by
  cases r with
  | plain => exact noneHeld_askUpstream s a _
  | setupBlock =>
    rw [State.judgeFullWrite]
    split <;> exact noneHeld_askUpstream s a _
  | statusBlock w =>
    rw [State.judgeFullWrite]
    split
    · exact noneHeld_answer _ a _
    · exact noneHeld_askUpstream s a _
  | window w => exact noneHeld_askUpstream s a _
  | log => exact noneHeld_askUpstream s a _

theorem noneHeld_judgeNarrowWrite (r : Region) : NoneHeld (s.judgeNarrowWrite a r) := by
  cases r with
  | plain => exact noneHeld_askUpstream s a _
  | setupBlock =>
    rw [State.judgeNarrowWrite]
    split <;> exact noneHeld_askUpstream s a _
  | statusBlock w => exact noneHeld_askUpstream s a _
  | window w => exact noneHeld_answer _ a _
  | log => exact noneHeld_askUpstream s a _

/-- An access that is judged and not held is answered, or stands at memory (R145). -/
theorem noneHeld_judge (hold : ¬s.mustHold a = true) : NoneHeld (s.judge a) := by
  rw [State.judge, if_neg hold]
  split
  · exact noneHeld_answer _ a _
  · split
    · exact noneHeld_answer _ a _
    · cases a.dir with
      | read => exact noneHeld_askUpstream s a _
      | write =>
        cases a.width with
        | four => exact noneHeld_judgeFullWrite s a _
        | two => exact noneHeld_judgeNarrowWrite s a _
        | one => exact noneHeld_judgeNarrowWrite s a _

end

/-! ### The upstream port goes on (R142) -/

section
variable {s : State} {a : HostAccess}

theorem judgeHeld_of_held (h : s.port.current = some { acc := a, phase := .held }) :
    s.judgeHeld = State.judge { s with port := { s.port with current := none } } a := by
  rw [State.judgeHeld, h]

theorem judgeHeld_of_noneHeld (h : NoneHeld s) : s.judgeHeld = s := by
  unfold State.judgeHeld
  split
  · next a ha => exact absurd ha (h a)
  · rfl

/-- What waits behind plays no part in the judgement of the held access. -/
theorem judgeHeld_behind (s : State) (b : List HostAccess) :
    State.judgeHeld { s with port := { s.port with behind := b } } =
      { s.judgeHeld with port := { s.judgeHeld.port with behind := b } } := by
  by_cases h : ∃ a, s.port.current = some { acc := a, phase := .held }
  · obtain ⟨a, ha⟩ := h
    rw [judgeHeld_of_held ha, judgeHeld_of_held (a := a) (by exact ha)]
    exact State.judge_behind { s with port := { s.port with current := none } } a b
  · rw [judgeHeld_of_noneHeld (not_exists.1 h), judgeHeld_of_noneHeld (by exact not_exists.1 h)]

theorem pump_eq (s : State) : s.pump = takeBehind s.port.behind s.judgeHeld := by
  simp [State.pump]

theorem pump_behind (s : State) (b : List HostAccess) :
    State.pump { s with port := { s.port with behind := b } } = takeBehind b s.judgeHeld := by
  rw [pump_eq, judgeHeld_behind, takeBehind_behind]

/-- A held access whose hold stands is held again. -/
theorem judgeHeld_hold (h : s.port.current = some { acc := a, phase := .held })
    (hold : s.mustHold a = true) : s.judgeHeld = s := by
  rw [judgeHeld_of_held h]
  refine (judge_held (by exact hold)).trans ?_
  change ({ s with port := { s.port with current := some { acc := a, phase := .held } } } : State) = s
  rw [← h]

/-- An access that has just been judged stands as it was judged. -/
theorem judgeHeld_judge (s : State) (a : HostAccess) :
    (s.judge a).judgeHeld = s.judge a := by
  by_cases hold : s.mustHold a = true
  · rw [judge_held hold]
    exact judgeHeld_hold (a := a) rfl hold
  · exact judgeHeld_of_noneHeld (noneHeld_judge _ _ hold)

theorem takeBehind_judges (h : s.port.current = none) (a : HostAccess) (rest : List HostAccess) :
    takeBehind (a :: rest) s = takeBehind rest (s.judge a) := by
  simp only [takeBehind, h]

/-- At a port that carries none the access in front is judged, before those behind it. -/
theorem pump_judges (h : s.port.current = none) (a : HostAccess) (rest : List HostAccess) :
    State.pump { s with port := { s.port with behind := a :: rest } } =
      State.pump { s.judge a with port := { (s.judge a).port with behind := rest } } := by
  rw [pump_behind, pump_behind, judgeHeld_judge, judgeHeld_of_noneHeld (by simp [NoneHeld, h]),
    takeBehind_judges h]

/-- A held access is judged as newly arrived, before those behind it. -/
theorem pump_releases (h : s.port.current = some { acc := a, phase := .held }) :
    s.pump = State.pump
      { s with port := { s.port with current := none, behind := a :: s.port.behind } } := by
  let idle : State := { s with port := { s.port with current := none } }
  calc s.pump = takeBehind s.port.behind (idle.judge a) := by rw [pump_eq, judgeHeld_of_held h]
    _ = State.pump { idle.judge a with
          port := { (idle.judge a).port with behind := s.port.behind } } := by
      rw [pump_behind, judgeHeld_judge]
    _ = _ := (pump_judges (s := idle) rfl a s.port.behind).symm

/-- An access that is at memory, or whose hold stands, keeps the port as it is. -/
theorem pump_carrying {c : Carried} (h : s.port.current = some c) (hj : s.judgeHeld = s) :
    s.pump = s := by
  rw [pump_eq, hj, takeBehind_busy h]

theorem settlePorts_congr {t u : State} (h : t.pump = u.pump) (before : State) :
    t.settlePorts before = u.settlePorts before := by
  simp only [State.settlePorts, h]

end

/-! ### The end of an operation (R179, R186, R198) -/

theorem raiseDemand_eq (t s : State) : t.raiseDemand s =
    { t with status := { t.status with demand := t.status.demand || decide (s.shown ≠ t.shown) } } := by
  by_cases h : s.shown = t.shown <;> simp [State.raiseDemand, h]

theorem judgeLine_eq (t : State) : t.judgeLine =
    { t with alert := { t.alert with
        line := if t.supply.domainHeld then
            (match t.setup.inForce with
              | some c => decide (t.alert.latched &&& c.mask ≠ 0)
              | none => false)
          else t.alert.line } } := by
  have hlevel : t.lineLevel =
      match t.setup.inForce with
      | some c => decide (t.alert.latched &&& c.mask ≠ 0)
      | none => false := by
    unfold State.lineLevel
    cases t.setup.inForce with
    | none => rfl
    | some c => simp [bne, beq_eq_decide]
  rw [← hlevel]
  by_cases h : t.supply.domainHeld = true <;> simp [State.judgeLine, h]

/-- Settles O7: the end of an operation field by field, and the upstream port by what it carries. -/
theorem endOfOperation : Obligations.EndOfOperation := by
  refine ⟨fun t s => ?_, fun t s => ?_⟩
  · rw [State.settle, raiseDemand_eq, judgeLine_eq]
    rfl
  · intro holdStands
    refine ⟨rfl, fun hc hb => ?_, fun a job hc => ?_, fun a hc hold => ?_, fun a hc _ => pump_releases hc⟩
    · exact State.pump_idle hb (by simp [hc])
    · exact pump_carrying hc (judgeHeld_of_noneHeld (by simp [NoneHeld, hc]))
    · exact pump_carrying hc (judgeHeld_hold hc (mustHold_iff.2 hold))

/-! ### The arrival of a host access (R142, R143) -/

section
variable {s : State} {a : HostAccess}

theorem exec_hostAccess_retain (h : s.supply.part = .retain) : exec (.hostAccess a) s = .next s :=
  congrArg Host.Outcome.next (if_pos h)

theorem hostAccess_arrives (h : s.supply.part ≠ .retain) : s.hostAccess a =
    State.settlePorts { s with port := { s.port with behind := s.port.behind ++ [a] } } s :=
  if_neg h

/-- At an idle port the access that arrives is judged at once (R142, R145). -/
theorem hostAccess_judges (hp : s.supply.part ≠ .retain) (hc : s.port.current = none)
    (hb : s.port.behind = []) : s.hostAccess a = (s.judge a).settlePorts s := by
  rw [hostAccess_arrives hp, hb]
  refine settlePorts_congr ((pump_judges hc a []).trans (congrArg State.pump ?_)) s
  have hjudged : (s.judge a).port.behind = [] := by simp [hb]
  rw [← hjudged]

theorem judgedAs_judge (hp : s.supply.part ≠ .retain) (hc : s.port.current = none)
    (hb : s.port.behind = []) {u : State} (hu : s.judge a = u) : Safety.judgedAs s a u := by
  subst hu
  refine ⟨congrArg Host.Outcome.next (hostAccess_judges hp hc hb), fun rest before => ?_⟩
  exact ⟨settlePorts_congr (pump_judges hc a rest) before, pump_judges hc a rest⟩

end

/-- Settles O36: the tests in their order, each on the judgement of the access. -/
theorem hostAccessTests : Obligations.HostAccessTests := by
  intro s a held starting waits aligned beyond
  refine ⟨exec_hostAccess_retain, fun hp => congrArg Host.Outcome.next (hostAccess_arrives hp),
    fun hc hb => ⟨fun hs => ?_, fun hp => ?_⟩⟩
  · have hpart : s.supply.part ≠ .retain := by
      obtain ⟨v, hv⟩ := hs
      simp [hv]
    exact judgedAs_judge hpart hc hb (judge_held (mustHold_iff.2 (.inl hs)))
  · have hpart : s.supply.part ≠ .retain := by rcases hp with h | h | h <;> simp [h]
    have hnotStarting : ¬∃ v, s.supply.part = .starting v := by rcases hp with h | h | h <;> simp [h]
    have hfree (hw : ¬waits) : ¬s.mustHold a = true := fun h =>
      (mustHold_iff.1 h).elim hnotStarting hw
    refine ⟨fun hw => ?_, fun hw ha => ?_, fun hw ha hbeyond => ?_, fun ha hbeyond hd => ?_⟩
    · exact judgedAs_judge hpart hc hb (judge_held (mustHold_iff.2 (.inr hw)))
    · exact judgedAs_judge hpart hc hb (judge_misaligned (hfree hw) (mt aligned_iff.1 ha))
    · exact judgedAs_judge hpart hc hb
        (judge_beyond (hfree hw) (aligned_iff.2 ha) (beyondCapacity_iff.2 hbeyond))
    · have hw : ¬waits := fun h => absurd (hd.symm.trans h.1) (by decide)
      exact judgedAs_judge hpart hc hb
        (judge_read (hfree hw) (aligned_iff.2 ha) (mt beyondCapacity_iff.1 hbeyond) hd)

end Sys2Proof
end

section
/-! A narrow write to the report window (R100, R149, R153). -/

namespace Sys2Proof

open Machine

/-! ### The window in a setup whose regions pass (R146, R170) -/

/-- The window lies on word addresses, below capacity, and apart from the status and setup blocks. -/
theorem regionOk_window {c : Setup} (h : c.regionOk = true) :
    c.windowBase % 4 = 0 ∧ c.windowBase + 128 ≤ c.capacity * 1048576 ∧
      (c.statusBase + 192 ≤ c.windowBase ∨ c.windowBase + 128 ≤ c.statusBase) ∧
      256 ≤ c.windowBase := by
  have hcap : c.capacityBytes = c.capacity * 1048576 := rfl
  simp only [Setup.regionOk, disjointSpans, Bool.and_eq_true, Bool.or_eq_true, beq_iff_eq,
    decide_eq_true_iff] at h
  omega

section
variable {c : Setup} (hr : c.regionOk = true)
include hr

theorem regionOf_window {n : Nat} (hl : c.windowBase ≤ n) (hu : n < c.windowBase + 128) :
    regionOf (some c) n = .window ((n - c.windowBase) / 4) := by
  obtain ⟨-, -, hstatus, hsetup⟩ := regionOk_window hr
  have hs : inBlock c.statusBase 192 n = false := by
    simp only [inBlock, Bool.and_eq_false_iff, decide_eq_false_iff_not]
    omega
  have hw : inBlock c.windowBase 128 n = true := by simp [inBlock, hl, hu]
  rw [regionOf, if_neg (by omega)]
  simp [hs, hw]

theorem window_below {n : Nat} (hu : n < c.windowBase + 128) :
    ¬beyondCapacity (some c) n = true := by
  obtain ⟨-, hcap, -, -⟩ := regionOk_window hr
  intro h
  obtain ⟨d, hd, hn⟩ := beyondCapacity_iff.1 h
  obtain rfl : c = d := Option.some.inj hd
  omega

/-- No address of the window wraps (R146, R170). -/
theorem windowAddr_toNat (hcap : c.capacity ≤ 16) (offset : BitVec 7) :
    (BitVec.ofNat 24 (c.windowBase + offset.toNat)).toNat = c.windowBase + offset.toNat := by
  obtain ⟨-, hbelow, -, -⟩ := regionOk_window hr
  have ho := offset.isLt
  rw [BitVec.toNat_ofNat, Nat.mod_eq_of_lt]
  omega

end

/-! ### The access and its refusal (R100, R149, R153) -/

theorem exec_narrowWindowWrite {s : State} {c : Setup} (hc : s.setup.inForce = some c)
    (offset : BitVec 7) (width : NarrowWidth) (data : Word) :
    exec (.narrowWindowWrite offset width data) s =
      .next (s.hostAccess (hostWrite c.windowBase offset.toNat width.width data)) := by
  change execNarrowWindowWrite offset width data s = _
  rw [execNarrowWindowWrite, hc]

/-- The base being a word address, the offset alone decides whether the access is aligned. -/
theorem hostWrite_window_aligned {c : Setup} (hr : c.regionOk = true) (hcap : c.capacity ≤ 16)
    (offset : BitVec 7) (width : NarrowWidth) (data : Word) :
    (hostWrite c.windowBase offset.toNat width.width data).aligned = true ↔
      width = .one ∨ offset.toNat % 2 = 0 := by
  obtain ⟨hword, -, -, -⟩ := regionOk_window hr
  rw [aligned_iff]
  change (BitVec.ofNat 24 (c.windowBase + offset.toNat)).toNat % width.width.bytes = 0 ↔ _
  rw [windowAddr_toNat hr hcap]
  cases width with
  | one => simp [NarrowWidth.width, Width.bytes, Nat.mod_one]
  | two =>
    simp only [NarrowWidth.width, Width.bytes, reduceCtorEq, false_or]
    omega

theorem narrowWindow_idle {s : State} (h : s.assembler.collecting = none) (a : HostAccess) :
    s.narrowWindow a = Safety.rejected s a .narrowWindow := by
  have hi : (s.accessError a .narrowWindow).refuseAssembly .narrowWrite =
      s.accessError a .narrowWindow := by
    simp [State.refuseAssembly, h]
  rw [State.narrowWindow, hi]
  rfl

theorem narrowWindow_collecting {s : State} {x : Collecting} (h : s.assembler.collecting = some x)
    (a : HostAccess) : s.narrowWindow a = Safety.rejected
      (Safety.refused { s with assembler := { s.assembler with collecting := none } }
        (x.header.extractLsb' 16 16) .narrowWrite) a .narrowWindow := by
  have hi : (s.accessError a .narrowWindow).refuseAssembly .narrowWrite =
      State.refuse
        { s.accessError a .narrowWindow with assembler := { s.assembler with collecting := none } }
        (headerSeq x.header) .narrowWrite := by
    simp [State.refuseAssembly, h]
  rw [State.narrowWindow, hi]
  rfl

/-- Settles O34: the narrow access is judged at the idle port, in the window's region or as misaligned. -/
theorem narrowWindowRefused : Obligations.NarrowWindowRefused := by
  intro s c offset width data hc hcurrent hbehind hpart hwaiting hr hcap a aligned
  have ho := offset.isLt
  have haddr : a.addr.toNat = c.windowBase + offset.toNat := windowAddr_toNat hr hcap offset
  have haligned : a.aligned = true ↔ aligned := hostWrite_window_aligned hr hcap offset width data
  have hnotRetain : s.supply.part ≠ .retain := by rcases hpart with h | h <;> simp [h]
  have hhold : ¬s.mustHold a = true := by
    rw [mustHold_iff]
    rcases hpart with h | h <;> simp [h, WaitsForReport, hwaiting]
  have judged {u : State} (hu : s.judge a = u) :
      exec (.narrowWindowWrite offset width data) s = .next (State.settlePorts u s) := by
    rw [exec_narrowWindowWrite hc, ← hu]
    exact congrArg Host.Outcome.next (hostAccess_judges hnotRetain hcurrent hbehind)
  have judgedNarrow (ha : aligned) : s.judge a = s.narrowWindow a := by
    rw [judge_narrow hhold (haligned.2 ha) (by rw [hc, haddr]; exact window_below hr (by omega)) rfl
      (by cases width <;> exact Width.noConfusion), hc, haddr,
      regionOf_window hr (by omega) (by omega)]
    rfl
  refine ⟨fun ha hcollecting => ?_, fun x ha hcollecting => ?_, fun ha => ?_⟩
  · exact judged ((judgedNarrow ha).trans (narrowWindow_idle hcollecting a))
  · exact judged ((judgedNarrow ha).trans (narrowWindow_collecting hcollecting a))
  · exact judged (judge_misaligned hhold (mt haligned.1 ha))

end Sys2Proof
end

section
/-! Reports on their way to a handler (R102, R104), the EXPORTED at its hand-over (R138, R140), and the
assembler that the window's writes feed (R93 to R101). -/

namespace Sys2Proof

open Machine

/-! ### The two hand-over places (R102 to R104) -/

section
variable {s : State} {r : Report}

theorem ready_iff : s.ready = true ↔ s.supply.part = .running ∧ s.setup.load = none := by
  simp [State.ready]

theorem complete_handOver (h : s.assembler.handling = none) : s.complete r = s.handOver r := by
  rw [State.complete, h]

theorem complete_notReady (h : s.assembler.handling = none) (hn : ¬s.ready = true) :
    s.complete r = Safety.refused s r.seq .notReady := by
  rw [complete_handOver h, State.handOver, if_pos (by simpa using hn), State.refuse_eq]

theorem complete_waits {q : Report} (hh : s.assembler.handling = some q)
    (hw : s.assembler.waiting = none) :
    s.complete r = { s with assembler := { s.assembler with waiting := some r } } := by
  rw [State.complete, hh, hw]

theorem complete_notTaken (hh : s.assembler.handling ≠ none) (hw : s.assembler.waiting ≠ none) :
    s.complete r = s := by
  obtain ⟨q, hq⟩ := Option.ne_none_iff_exists'.1 hh
  obtain ⟨x, hx⟩ := Option.ne_none_iff_exists'.1 hw
  rw [State.complete, hq, hx]

theorem releaseWaiting_some (h : s.assembler.waiting = some r) : s.releaseWaiting = State.complete
    { s with assembler := { s.assembler with handling := none, waiting := none } } r := by
  rw [State.releaseWaiting, h]
  exact (complete_handOver rfl).symm

theorem releaseWaiting_none (h : s.assembler.waiting = none) :
    s.releaseWaiting = { s with assembler := { s.assembler with handling := none } } := by
  rw [State.releaseWaiting, h]

end

/-! ### The report rows (logs 6 and 7) -/

theorem reportsComplete_iff {p : PartState} :
    p.reportsComplete = true ↔ p = .scanning ∨ p = .running := by
  cases p <;> simp [PartState.reportsComplete]

/-- What a report row does with its report: it completes in SCANNING and RUNNING, and nowhere else. -/
theorem exec_reportRow {s : State} {i : Instr} {r : Report}
    (hi : exec i s = .next (s.reportArrives r)) :
    (s.supply.part = .scanning ∨ s.supply.part = .running →
      exec i s = .next (State.settle (s.complete r) s)) ∧
    (¬(s.supply.part = .scanning ∨ s.supply.part = .running) → exec i s = .next s) := by
  rw [hi, State.reportArrives]
  exact ⟨fun h => by rw [if_pos (reportsComplete_iff.2 h)],
    fun h => by rw [if_neg (mt reportsComplete_iff.1 h)]⟩

/-- An EXPORTED report: last exported record sequence and new tail (R113). -/
def exportedReport (seq : Half) (rsv : BitVec 7) (lastSeq newTail : Word) : Report :=
  { seq := seq, kind := .exported, rsv := rsv, body := [lastSeq, newTail] }

section
variable {s : State} {seq : Half} {rsv : BitVec 7} {lastSeq newTail : Word}

theorem exec_exported (h : s.supply.part = .scanning ∨ s.supply.part = .running) :
    exec (.exported seq rsv lastSeq newTail) s =
      .next (State.settlePorts (s.complete (exportedReport seq rsv lastSeq newTail)) s) :=
  if_pos (reportsComplete_iff.2 h)

theorem exec_exported_elsewhere (h : ¬(s.supply.part = .scanning ∨ s.supply.part = .running)) :
    exec (.exported seq rsv lastSeq newTail) s = .next s :=
  if_neg (mt reportsComplete_iff.1 h)

end

/-- Settles O28: a report by the places that are full, and every report row as the report it lays out. -/
theorem notReadyAndWaiting : Obligations.NotReadyAndWaiting := by
  constructor
  · intro s r
    refine ⟨fun hh hn => ?_, fun q => complete_waits, complete_notTaken, releaseWaiting_some,
      releaseWaiting_none⟩
    refine complete_notReady hh fun hready => ?_
    obtain ⟨hpart, hload⟩ := ready_iff.1 hready
    exact hn.elim (· hpart) (· hload)
  · intro s seq rsv reference words w v receiver number bodyRsv report named completes hands
    exact ⟨exec_reportRow rfl, exec_reportRow rfl, exec_reportRow rfl, exec_reportRow rfl,
      exec_reportRow rfl, exec_reportRow rfl, exec_reportRow rfl, exec_reportRow rfl,
      exec_reportRow rfl, exec_exported, exec_exported_elsewhere⟩

/-! ### The EXPORTED at its hand-over (R105, R138 to R140) -/

theorem encodingOk_exported (cfg : Setup) (seq : Half) (rsv : BitVec 7) (lastSeq newTail : Word) :
    encodingOk cfg (exportedReport seq rsv lastSeq newTail) = true ↔ rsv = 0 := by
  change (rsv == 0 && true) = true ↔ _
  simp

/-- At its handler a well-encoded report is handled, and any other refused BAD_FIELD (R105). -/
theorem complete_atHandler {s : State} (h : Safety.AtHandler s) (r : Report) :
    s.complete r =
      if encodingOk s.cfg r = true then s.handle r else Safety.refused s r.seq .badField := by
  rw [complete_handOver h.notHandling, State.handOver,
    if_neg (by simp [ready_iff.2 ⟨h.running, h.notLoading⟩])]
  cases encodingOk s.cfg r <;> rfl

section
variable {s : State} {l : LogState}

/-- An EXPORTED taken at the head leaves no used word (R140). -/
theorem takeExport_atHead {r : Report} (hp : r.exportTail = l.head) : s.takeExport r l =
    { State.judgeNearFull { s with
        writer := { s.writer with log := some { l with tail := r.exportTail, used := 0 } } } with
      receipt := Safety.takenNothingQueued s r.seq } := by
  rw [State.takeExport, State.take_nothingQueued (s := s) (by simp) (by simp), if_pos hp]

theorem exportReadable_iff {cfg : Setup} {p : Nat} : exportReadable cfg l p = true ↔
    p < cfg.logSize ∧ (p + cfg.logSize - l.tail) % cfg.logSize < l.used := by
  rw [exportReadable, Bool.and_eq_true, decide_eq_true_iff, decide_eq_true_iff]
  rfl

end

section
variable {s : State} (h : Safety.AtHandler s) {seq : Half} {lastSeq newTail : Word}
include h

/-- The judgement of a well-encoded EXPORTED at its handler, with a log in force (R138, R139). -/
theorem exec_exported_judged {l : LogState} (hl : s.writer.log = some l) :
    exec (.exported seq 0 lastSeq newTail) s = .next (State.settlePorts
      (if newTail.toNat = l.head then
        if lastSeq + 1 = l.nextSeq then s.takeExport (exportedReport seq 0 lastSeq newTail) l
        else Safety.refused s seq .badExport
      else if exportReadable s.cfg l newTail.toNat = true then
        { s with
          assembler := { s.assembler with handling := some (exportedReport seq 0 lastSeq newTail) }
          arbiter := { s.arbiter with reader := s.arbiter.reader ++ [.exportCheck] } }
      else Safety.refused s seq .badExport) s) := by
  rw [exec_exported (.inr h.running), complete_atHandler h,
    if_pos ((encodingOk_exported ..).2 rfl)]
  change Host.Outcome.next (State.settlePorts (s.handleExported _) s) = _
  rw [State.handleExported, hl]
  rfl

theorem exec_exported_badField {rsv : BitVec 7} (hr : rsv ≠ 0) :
    exec (.exported seq rsv lastSeq newTail) s =
      .next (State.settlePorts (Safety.refused s seq .badField) s) := by
  rw [exec_exported (.inr h.running), complete_atHandler h,
    if_neg (mt (encodingOk_exported ..).1 hr)]
  rfl

end

/-- Settles O29: the cases of the handler of an EXPORTED, and the reserved bits checked before it. -/
theorem exportedJudged : Obligations.ExportedJudged := by
  refine ⟨fun s seq lastSeq newTail l h hl hp => ⟨fun hs => ?_, fun hs => ?_⟩,
    fun s seq lastSeq newTail l h hl hp => ⟨fun hr => ?_, fun hr => ?_⟩,
    fun s seq rsv lastSeq newTail h hr => exec_exported_badField h hr⟩
  · rw [exec_exported_judged h hl, if_pos hp, if_pos hs, takeExport_atHead (by exact hp)]
    rfl
  · rw [exec_exported_judged h hl, if_pos hp, if_neg hs]
  · rw [exec_exported_judged h hl, if_neg hp, if_pos (exportReadable_iff.2 hr)]
    rfl
  · rw [exec_exported_judged h hl, if_neg hp, if_neg (mt exportReadable_iff.1 hr)]

/-! ### The assembler (R96 to R101) -/

section
variable {s : State} {c : Collecting}

/-- The report under assembly is refused by its header's sequence, and the assembler is IDLE (R98 to R101). -/
theorem refuseAssembly_collecting (h : s.assembler.collecting = some c) (reason : ReportRefusal) :
    s.refuseAssembly reason = Safety.refused
      { s with assembler := { s.assembler with collecting := none } }
      (c.header.extractLsb' 16 16) reason := by
  rw [State.refuseAssembly, h]
  rfl

theorem refuseAssembly_idle (h : s.assembler.collecting = none) (reason : ReportRefusal) :
    s.refuseAssembly reason = s := by
  rw [State.refuseAssembly, h]

/-- Away from the clock's stop the completion deadline is 2 s off (R96). -/
theorem completionDeadline_eq {clock : Clock} (hs : clock.seconds < 4294967293)
    (hsub : clock.sub ≤ 63) : completionDeadline clock = clock.seconds * 64 + clock.sub + 128 := by
  unfold completionDeadline Clock.ticks maxWord
  omega

theorem judgeHeader_collects {h : Word} {k : ReportKind} (hk : kindOfCode (bits h 15 12) = some k)
    (hn : lengthInRange k (bits h 4 0) = true) : s.judgeHeader h =
      { s with assembler := { s.assembler with
          collecting := some
            { header := h, kind := k, words := [], deadline := completionDeadline s.clock } } } := by
  simp only [State.judgeHeader, hk]
  exact if_pos hn

theorem judgeHeader_refuses {h : Word}
    (hk : ∀ k, kindOfCode (bits h 15 12) = some k → lengthInRange k (bits h 4 0) = false) :
    s.judgeHeader h = Safety.refused s (h.extractLsb' 16 16) .badHeader := by
  rw [← State.refuse_eq, State.judgeHeader]
  split
  · rfl
  · next k hkind => exact if_neg (by simpa [headerLength] using hk k hkind)

theorem feed_header (h : Word) : s.feed 0 h = (s.refuseAssembly .overtaken).judgeHeader h := rfl

theorem feed_idle {offset : Nat} (ho : offset ≠ 0) (hc : s.assembler.collecting = none) (w : Word) :
    s.feed offset w = s := by
  rw [State.feed, if_neg ho, hc]

/-- A word fed behind a header, by its offset (R97, R99). -/
theorem feed_collecting {offset : Nat} (ho : offset ≠ 0) (hc : s.assembler.collecting = some c)
    (w : Word) : s.feed offset w =
      if offset ≠ c.words.length + 1 then s.refuseAssembly .outOfOrder
      else if offset ≠ bits c.header 4 0 + 1 then
        { s with assembler := { s.assembler with
            collecting := some { c with words := c.words ++ [w] } } }
      else if checkWordOk c.header c.words w then
        State.complete { s with assembler := { s.assembler with collecting := none } } c.report
      else s.refuseAssembly .checkFailed := by
  rw [State.feed, if_neg ho, hc]
  rfl

/-- A correct check word: the header's sequence above the check of header and body (R95). -/
theorem checkWordOk_iff {header w : Word} {body : List Word} : checkWordOk header body w = true ↔
    w.extractLsb' 16 16 = header.extractLsb' 16 16 ∧
      w.extractLsb' 0 16 = spanCheck (header :: body) := by
  rw [checkWordOk, beq_iff_eq]
  constructor
  · rintro rfl
    exact ⟨BitVec.extractLsb'_append_eq_left, BitVec.extractLsb'_append_eq_right⟩
  · rintro ⟨hseq, hcheck⟩
    rw [headerSeq, ← hseq, ← hcheck, eq_comm]
    exact BitVec.extractLsb'_append_extractLsb'

end

/-- The state in which a header is judged: the report under assembly, if any, is OVERTAKEN (R98). -/
theorem refuseAssembly_eq (s : State) (reason : ReportRefusal) : s.refuseAssembly reason =
    match s.assembler.collecting with
    | none => s
    | some c => Safety.refused { s with assembler := { s.assembler with collecting := none } }
        (c.header.extractLsb' 16 16) reason := rfl

/-- The kinds are coded 1 to 9 (R214). -/
theorem kindOfCode_none {code : Nat} (h : code = 0 ∨ 10 ≤ code) : kindOfCode code = none := by
  rcases h with rfl | h
  · rfl
  · obtain ⟨k, rfl⟩ := Nat.exists_eq_add_of_le' h
    rfl

/-- Settles O31: a header behind the report it overtakes, a word by its offset, and the table of kinds. -/
theorem assemblerFeeds : Obligations.AssemblerFeeds := by
  refine ⟨fun s h => ?_, fun s offset w ho => ⟨fun hc => feed_idle ho hc w, fun c hc => ?_⟩,
    fun code n => ?_⟩
  · intro u
    have hfeed : s.feed 0 h = u.judgeHeader h := congrArg (State.judgeHeader · h) (refuseAssembly_eq ..)
    have hclock : u.clock = s.clock := by
      change State.clock (s.refuseAssembly .overtaken) = _
      simp
    refine ⟨fun k hk hn hs hsub => ?_, fun hk => hfeed.trans (judgeHeader_refuses hk)⟩
    rw [hfeed, judgeHeader_collects hk hn, hclock, completionDeadline_eq hs hsub]
  · intro idle seq expected atCheck correct
    have hcorrect : checkWordOk c.header c.words w = true ↔ correct := checkWordOk_iff
    rw [feed_collecting ho hc]
    refine ⟨fun he => ?_, fun he (ha : offset ≠ bits c.header 4 0 + 1) => ?_,
      fun he (ha : offset = bits c.header 4 0 + 1) hw => ?_,
      fun he (ha : offset = bits c.header 4 0 + 1) hw => ?_⟩
    · rw [if_pos he, refuseAssembly_collecting hc]
    · rw [if_neg (not_not_intro he), if_pos ha]
    · rw [if_neg (not_not_intro he), if_neg (not_not_intro ha), if_neg (mt hcorrect.1 hw),
        refuseAssembly_collecting hc]
    · rw [if_neg (not_not_intro he), if_neg (not_not_intro ha), if_pos (hcorrect.2 hw)]
      rfl
  · intro kind
    refine ⟨?_, ?_, ?_, ?_, ?_, ?_, ?_, ?_, ?_, kindOfCode_none⟩
    all_goals exact ⟨rfl, by simp [lengthInRange, or_assoc]⟩

/-- Settles O33: a deadline that has been reached refuses the report under assembly. -/
theorem assemblyTimesOut : Obligations.AssemblyTimesOut := by
  intro s c hc hpart hdeadline
  have hdue : (s.supply.part != .retain && decide (c.deadline ≤ s.clock.ticks)) = true := by
    rw [Bool.and_eq_true, bne_iff_ne, decide_eq_true_iff]
    exact ⟨hpart, hdeadline⟩
  have hexpire : s.expireAssembly = s.refuseAssembly .timedOut := by
    simp only [State.expireAssembly, hc]
    exact if_pos hdue
  change Host.Outcome.next (s.expireAssembly.settle s) = _
  rw [hexpire, refuseAssembly_collecting hc]

/-! ### A write to the window completes at memory (R93, R148, R154) -/

theorem isOk_iff {m : MemAnswer} : m.isOk = true ↔ m ≠ .fault := by
  cases m <;> simp [MemAnswer.isOk]

theorem upstreamJob_of_atMemory {s : State} {a : HostAccess} {job : HostJob}
    (h : Safety.AtMemory s a job) : s.upstreamJob = some (a, job) := by
  rw [State.upstreamJob, h.owner, h.carried]

theorem exec_reportWindowWrite {s : State} {a : HostAccess} {offset : Nat}
    (h : Safety.AtMemory s a (.windowWrite offset)) (m : MemAnswer) :
    exec (.reportWindowWrite m) s =
      .next (State.settlePorts ((Safety.freed s).finishWindow a offset m) s) := by
  change execReportWindowWrite m s = _
  rw [execReportWindowWrite, upstreamJob_of_atMemory h]
  rfl

/-- The word stands in memory by memory's answer; OK feeds it, FAULT is an access error. -/
theorem finishWindow_eq (s : State) (a : HostAccess) (offset : Nat) (m : MemAnswer) :
    let u := Safety.written s m (a.addr.toNat / 4 * 4) a.data
    s.finishWindow a offset m = if m.isOk = true then
      Safety.answered (u.feed offset a.data) a .writeOk else Safety.rejected u a .memoryFault := by
  rw [← State.memWrite_eq]
  rfl

/-- Settles O32: the window write at memory, by memory's answer. -/
theorem windowWriteFeeds : Obligations.WindowWriteFeeds := by
  intro s a offset m h u
  rw [exec_reportWindowWrite h, finishWindow_eq]
  exact ⟨fun hm => by rw [if_pos (isOk_iff.2 hm)],
    fun hm => by rw [if_neg (mt isOk_iff.1 (not_not_intro hm))]⟩

end Sys2Proof
end

section
/-! A record produced with the queue full (R118, R119, R127): the accounts it concerns, and what its loss
latches. -/

namespace Sys2Proof

open Machine

/-! ### The accounts that a record concerns (R127) -/

theorem isTracked_iff (e : Entry) : e.isTracked = true ↔ ∃ c t, e = .tracked c t := by
  cases e <;> simp [Entry.isTracked]

theorem isClean_iff (e : Entry) :
    e.isClean = true ↔ ∃ c, e.consignment = some c ∧ c.verdict = .clean := by
  unfold Entry.isClean
  cases e.consignment <;> simp

/-- The entry of a slot that a record concerns, kind by kind. -/
def ConcernsEntry (q : QEntry) (slot : Nat) (e : Entry) : Prop :=
  match q.body with
  | .loaded .. | .opened .. | .excursion .. | .moved .. | .verdict .. | .closed .. => q.slot = some slot
  | .gap k _ _ _ | .doubt k _ _ _ _ => ∃ c t, e = Entry.tracked c t ∧ c.compartment = k
  | .power .. | .reset .. => ∃ c t, e = Entry.tracked c t
  | .withdrawn .. | .stop .. | .loss .. | .coldStart .. | .setup .. | .time .. => False

theorem concerns_iff (q : QEntry) (slot : Nat) (e : Entry) :
    q.concerns slot e = true ↔ ConcernsEntry q slot e := by
  unfold QEntry.concerns ConcernsEntry
  cases q.body with
  | gap k fromTime toTime cause => exact trackedIn_iff k e
  | doubt k raised cause probeA probeB => exact trackedIn_iff k e
  | power loss ret => exact isTracked_iff e
  | reset assertion => exact isTracked_iff e
  | _ => simp

/-! ### An entry after the loss of a record (R119) -/

section
variable {q : QEntry} {slot : Nat} {e : Entry}

/-- A CLEAN entry is UNPROVEN after a change of its verdict to UNPROVEN (R7). -/
theorem mapConsignment_unprove_clean (cause : UnprovenCause) (h : e.isClean = true) :
    e.mapConsignment (Consignment.unprove cause) =
      e.mapConsignment (fun d => { d with verdict := .unproven cause }) := by
  obtain ⟨c, hc, hv⟩ := (isClean_iff e).1 h
  cases e with
  | free => rfl
  | staged d _ | tracked d _ | closing d _ _ =>
    obtain rfl : d = c := Option.some.inj hc
    simp [Entry.mapConsignment, Consignment.unprove, Verdict.toUnproven, hv]

/-- An entry that is not CLEAN stays as it is where its verdict would become UNPROVEN (R7). -/
theorem mapConsignment_unprove_kept (cause : UnprovenCause) (h : ¬e.isClean = true) :
    e.mapConsignment (Consignment.unprove cause) = e := by
  have keeps (c : Consignment) (hv : c.verdict ≠ .clean) : c.unprove cause = c := by
    obtain ⟨_, _, _, v⟩ := c
    cases v with
    | clean => exact absurd rfl hv
    | unproven _ | broken _ => rfl
  have hv (c : Consignment) (hc : e.consignment = some c) : c.verdict ≠ .clean :=
    fun hclean => h ((isClean_iff e).2 ⟨c, hc, hclean⟩)
  cases e with
  | free => rfl
  | staged c _ | tracked c _ | closing c _ _ => simp [Entry.mapConsignment, keeps c (hv c rfl)]

theorem afterLoss_changed (h : (q.concerns slot e && e.isClean) = true) : q.afterLoss slot e =
    e.mapConsignment (fun d => { d with verdict := .unproven .recordLost }) := by
  obtain ⟨hconcerned, hclean⟩ := Bool.and_eq_true_iff.1 h
  rw [QEntry.afterLoss, if_pos hconcerned, mapConsignment_unprove_clean _ hclean]

theorem afterLoss_kept (h : ¬(q.concerns slot e && e.isClean) = true) : q.afterLoss slot e = e := by
  unfold QEntry.afterLoss
  split
  · next hconcerned => exact mapConsignment_unprove_kept _ (by simpa [hconcerned] using h)
  · rfl

theorem afterLoss_eq_iff : q.afterLoss slot e = e ↔ ¬(q.concerns slot e && e.isClean) = true := by
  refine ⟨fun hkept h => ?_, afterLoss_kept⟩
  obtain ⟨c, hc, hv⟩ := (isClean_iff e).1 (Bool.and_eq_true_iff.1 h).2
  rw [afterLoss_changed h] at hkept
  have hconsignment := congrArg Entry.consignment hkept
  rw [Entry.mapConsignment_consignment, hc] at hconsignment
  have hverdict := congrArg Consignment.verdict (Option.some.inj hconsignment)
  simp [hv] at hverdict

end

/-! ### The loss (R118, R119) -/

/-- The account table after the loss of a record (R119). -/
def accountsAfterLoss (s : State) (q : QEntry) : List Entry :=
  s.accounts.mapIdx fun slot e => q.afterLoss slot e

/-- Some CLEAN account is concerned by the record (R119). -/
def lossUnproves (s : State) (q : QEntry) : Bool :=
  (s.accounts.mapIdx fun slot e => q.concerns slot e && e.isClean).any id

theorem accountsAfterLoss_getElem? {s : State} {slot : Nat} {e : Entry}
    (h : s.accounts[slot]? = some e) (q : QEntry) :
    (accountsAfterLoss s q)[slot]? = some (q.afterLoss slot e) := by
  simp [accountsAfterLoss, h]

/-- The loss leaves the table as it was exactly where it leaves every entry. -/
theorem accountsAfterLoss_eq_iff (s : State) (q : QEntry) : accountsAfterLoss s q = s.accounts ↔
    ∀ slot e, s.accounts[slot]? = some e → q.afterLoss slot e = e := by
  constructor
  · intro h slot e he
    have hafter := accountsAfterLoss_getElem? he q
    rw [h, he] at hafter
    exact (Option.some.inj hafter).symm
  · intro h
    refine List.ext_getElem? fun slot => ?_
    cases he : s.accounts[slot]? with
    | none => simp [accountsAfterLoss, he]
    | some e => rw [accountsAfterLoss_getElem? he, h slot e he]

theorem lossUnproves_iff (s : State) (q : QEntry) :
    lossUnproves s q = true ↔ accountsAfterLoss s q ≠ s.accounts := by
  rw [Ne, accountsAfterLoss_eq_iff]
  simp only [lossUnproves, List.any_eq_true, List.mem_iff_getElem?, List.getElem?_mapIdx,
    Option.map_eq_some_iff, afterLoss_eq_iff, not_forall, not_not]
  constructor
  · rintro ⟨_, ⟨slot, e, he, rfl⟩, hb⟩
    exact ⟨slot, e, he, hb⟩
  · rintro ⟨slot, e, he, hb⟩
    exact ⟨_, ⟨slot, e, he, rfl⟩, hb⟩

theorem Machine.PendingLoss.add_eq (loss : Option PendingLoss) (time : Nat) : PendingLoss.add loss time =
    { count := min ((loss.map PendingLoss.count).getD 0 + 1) 4294967295
      first := (loss.map PendingLoss.first).getD time
      last := time } := by
  cases loss <;> rfl

/-- What the loss of a record leaves, field by field. -/
theorem Machine.State.lose_eq (s : State) (q : QEntry) : s.lose q = { s with
    accounts := accountsAfterLoss s q
    queue := { s.queue with
      loss := some
        { count := min ((s.queue.loss.map PendingLoss.count).getD 0 + 1) 4294967295
          first := (s.queue.loss.map PendingLoss.first).getD s.clock.seconds
          last := s.clock.seconds } }
    alert := { s.alert with
      counters := { s.alert.counters with
        lostRecords := min (s.alert.counters.lostRecords + 1) 65535 }
      latched :=
        if lossUnproves s q then s.alert.latched ||| Cause.recordLost.bit ||| Cause.unproven.bit
        else s.alert.latched ||| Cause.recordLost.bit } } := by
  rw [← PendingLoss.add_eq]
  exact State.latchIf_eq _ _ _

/-- A record produced with the queue full is lost (R117, R118). -/
theorem Machine.State.produce_full {s : State} (h : 16 ≤ s.queue.entries.length) (q : QEntry) :
    s.produce q = s.lose q := if_neg (by omega)

/-- Settles O13: the queue's room decides, and a lost record changes the CLEAN entries it concerns. -/
theorem produceQueuesOrLoses : Obligations.ProduceQueuesOrLoses := by
  intro s q tracked concerns clean
  have hconcerns (slot : Nat) (e : Entry) : q.concerns slot e = true ↔ concerns slot e := by
    rw [concerns_iff]
    unfold ConcernsEntry concerns
    cases q.body <;> simp [tracked]
  have hchanged (slot : Nat) (e : Entry) :
      (q.concerns slot e && e.isClean) = true ↔ concerns slot e ∧ clean e := by
    rw [Bool.and_eq_true_iff, hconcerns, isClean_iff]
  refine ⟨fun h => State.produce_room rfl h q, fun h => ⟨accountsAfterLoss s q, _,
    (State.produce_full h q).trans (s.lose_eq q), List.length_mapIdx,
    fun slot e he => ⟨fun hc hv => ?_, fun hn => ?_⟩, fun hkept => ?_, fun hne => ?_⟩⟩
  · rw [accountsAfterLoss_getElem? he, afterLoss_changed ((hchanged slot e).2 ⟨hc, hv⟩)]
  · rw [accountsAfterLoss_getElem? he, afterLoss_kept (mt (hchanged slot e).1 hn)]
  · exact if_neg (mt (lossUnproves_iff s q).1 (not_not_intro hkept))
  · exact if_pos ((lossUnproves_iff s q).2 hne)

end Sys2Proof
end

section
/-! The records the writer assembles (R126 to R128, R215): the words of every kind, and an assembled record as
the log scan reads it (R208). -/

namespace Sys2Proof

open Machine

/-! ### An assembled record as the log scan reads it (R126, R128, R208) -/

/-- The body words of a record are as many as its kind's body length (R127). -/
theorem Machine.RecordBody.words_length (b : RecordBody) (openSeq : Option Word) :
    (b.words openSeq).length = b.length := by
  cases b with
  | closed _ _ _ _ receiver => cases receiver <;> rfl
  | coldStart highest _ _ => cases highest <;> rfl
  | _ => rfl

/-- No body is longer than a CLOSED body with a receiver (R127). -/
theorem Machine.RecordBody.length_le (b : RecordBody) : b.length ≤ 11 := by
  cases b with
  | closed _ _ _ _ receiver => cases receiver <;> simp [RecordBody.length]
  | _ => simp [RecordBody.length]

theorem coveredWords_length (e : QEntry) (seq : Word) (openSeq : Option Word) :
    (coveredWords e seq openSeq).length = e.body.length + 3 := by
  simp [coveredWords, RecordBody.words_length]

section
variable (b : RecordBody) (seq : Word)

theorem hasMarker_fixedWord0 : hasMarker (fixedWord0 b seq) = true := by
  have hmarker : (fixedWord0 b seq).extractLsb 31 24 = 0x5C#8 := by
    rw [fixedWord0, BitVec.extractLsb, BitVec.extractLsb'_append_eq_of_le (by omega),
      BitVec.extractLsb'_append_eq_of_le (by omega), BitVec.extractLsb'_append_eq_of_le (by omega)]
    exact BitVec.extractLsb'_eq_self
  rw [hasMarker, bits, hmarker]
  rfl

theorem markedLength_fixedWord0 : markedLength (fixedWord0 b seq) = b.length := by
  have hfield : (fixedWord0 b seq).extractLsb 19 15 = BitVec.ofNat 5 b.length := by
    rw [fixedWord0, BitVec.extractLsb, BitVec.extractLsb'_append_eq_of_le (by omega)]
    exact BitVec.extractLsb'_append_eq_right
  have hlength := b.length_le
  rw [markedLength, bits, hfield, BitVec.toNat_ofNat, Nat.mod_eq_of_lt (by omega)]

theorem sequenceTag_fixedWord0 : sequenceTag (fixedWord0 b seq) = seq.extractLsb' 0 15 :=
  BitVec.extractLsb'_append_eq_right

end

theorem isCandidate_fixedWord0 (b : RecordBody) (seq : Word) :
    isCandidate (fixedWord0 b seq) = true := by
  have := b.length_le
  simp only [isCandidate, hasMarker_fixedWord0, markedLength_fixedWord0, Bool.true_and,
    decide_eq_true_iff]
  omega

/-- A trailer that holds check and chain of the words before it makes the record valid (R128, R208). -/
theorem validRecord_assembled (e : QEntry) (seq : Word) (openSeq : Option Word) (committed : Half) :
    validRecord (coveredWords e seq openSeq ++ [trailerWord committed (coveredWords e seq openSeq)])
      = true := by
  have hcheck : (trailerWord committed (coveredWords e seq openSeq)).extractLsb' 16 16 =
      spanCheck (coveredWords e seq openSeq) := BitVec.extractLsb'_append_eq_left
  simp only [validRecord, List.dropLast_concat, List.getLastD_concat, hcheck, beq_self_eq_true,
    Bool.true_and, beq_iff_eq]
  exact sequenceTag_fixedWord0 e.body seq

theorem noteOf_assembled (position : Nat) (e : QEntry) (seq : Word) (openSeq : Option Word)
    (committed : Half) :
    noteOf position
        (coveredWords e seq openSeq ++ [trailerWord committed (coveredWords e seq openSeq)]) =
      { position := position, seq := seq, length := e.body.length + 4
        chain := feedWords committed (coveredWords e seq openSeq) } := by
  have hchain : (trailerWord committed (coveredWords e seq openSeq)).extractLsb' 0 16 =
      feedWords committed (coveredWords e seq openSeq) := BitVec.extractLsb'_append_eq_right
  simp only [noteOf, List.getLastD_concat, hchain, List.length_append, coveredWords_length]
  rfl

/-! ### The words of each kind (R127, R215) -/

theorem Machine.optWord_eq (n : Option Nat) :
    optWord n = (n.map natWord).getD 0xFFFFFFFF#32 := by
  cases n <;> rfl

theorem effectivePair_eq (e : Option Effective) :
    effectivePair e = tempHalf (e.map Effective.warm) ++ tempHalf (e.map Effective.cold) := by
  cases e <;> rfl

/-- The indication of a STOP record fills the lower half of its word. -/
theorem stopRecordWord_eq (number : Half) (arrive : Bool) :
    number ++ 0#14 ++ (if arrive then 1#2 else 2#2) = number ++ (if arrive then 1#16 else 2#16) := by
  cases arrive <;> exact BitVec.append_assoc

/-- Event and cause of a DOUBT record share the lowest byte of its first word. -/
theorem doubtRecordWord_eq (compartment : Nat) (event cause : BitVec 4) :
    0#16 ++ BitVec.ofNat 8 compartment ++ event ++ cause =
      0#16 ++ BitVec.ofNat 8 compartment ++ (event ++ cause) := BitVec.append_assoc

/-- Settles O44: an assembled record by the fields of its fixed word and trailer, and the words of each kind
against the layout of R215. -/
theorem recordsAreValid : Obligations.RecordsAreValid := by
  constructor
  · intro e seq openSeq committed position covered record
    have hlength : record.length = e.body.length + 4 := by
      simp [record, covered, coveredWords_length]
    refine ⟨hlength, isCandidate_fixedWord0 e.body seq, ?_, validRecord_assembled ..,
      noteOf_assembled ..⟩
    rw [hlength, candidateLength]
    exact congrArg (· + 4) (markedLength_fixedWord0 e.body seq)
  · intro reference seq stop check chain slot k j x y z u v d e a b p q r openTime t receiver high low
      highest openSeq n temp ref placement verdict opening body closed doubt
    have hverdict (flags : Half) : verdictWord d flags = verdict flags := by
      unfold verdictWord verdict
      split <;> rfl
    have hopened : body (.opened reference slot k j d e) 1 (ref ++ [placement, verdict 0, opening]) :=
      ⟨rfl, rfl, by rw [RecordBody.words, hverdict, effectivePair_eq]; rfl⟩
    have hjudged : body (.verdict reference d x y) 4 (ref ++ [verdict 0, n x, n y]) :=
      ⟨rfl, rfl, by rw [RecordBody.words, hverdict]; rfl⟩
    have hclosed : body (.closed reference d openTime t receiver) 5 closed :=
      ⟨rfl, by cases receiver <;> rfl, by rw [RecordBody.words, hverdict, optWord_eq]; rfl⟩
    have hstop (arrive : Bool) :
        body (.stop stop arrive) 8 [stop ++ (if arrive then 1#16 else 2#16)] :=
      ⟨rfl, rfl, congrArg ([·]) (stopRecordWord_eq stop arrive)⟩
    have hdoubt (raised : Bool) (c : DoubtCause) : doubt raised c
        ((if raised then 1#4 else 2#4) ++ match c with | .disagree => 1#4 | .absent => 2#4) :=
      ⟨rfl, rfl, congrArg (· :: _) (doubtRecordWord_eq k _ _)⟩
    exact ⟨⟨rfl, rfl, rfl⟩, hopened, ⟨rfl, rfl, rfl⟩, ⟨rfl, rfl, rfl⟩, hjudged, hclosed,
      ⟨rfl, rfl, rfl⟩, ⟨rfl, rfl, rfl⟩, ⟨rfl, rfl, rfl⟩, hstop true, hstop false, hdoubt true .disagree,
      hdoubt true .absent, hdoubt false .disagree, hdoubt false .absent, ⟨rfl, rfl, rfl⟩,
      ⟨rfl, rfl, rfl⟩, ⟨rfl, rfl, rfl⟩, ⟨rfl, rfl, rfl⟩, ⟨rfl, rfl, rfl⟩, ⟨rfl, rfl, rfl⟩,
      ⟨rfl, rfl, rfl⟩, ⟨rfl, rfl, rfl⟩, ⟨rfl, rfl, rfl⟩, ⟨rfl, rfl, rfl⟩⟩

end Sys2Proof
end

section
/-! The log writer: its front entry taken or waiting for space (R125, R131), the words of a record (R132), the
read-back that commits it (R133) and the halt (R134). -/

namespace Sys2Proof

open Machine

/-! ### The front entry is taken (R125, R131) -/

section
variable {s : State} {e : QEntry} {rest : List QEntry} {l : LogState}

theorem Machine.State.openSeqOf_eq (s : State) (e : QEntry) : s.openSeqOf e =
    match e.slot with
    | none => none
    | some slot => match s.accounts.getD slot .free with
      | .closing _ (some o) _ => o.recordSeq
      | _ => none := by
  unfold State.openSeqOf State.account
  cases e.slot with
  | none => rfl
  | some slot =>
    dsimp only
    cases s.accounts.getD slot .free with
    | closing c opening t => cases opening <;> rfl
    | free | staged _ _ | tracked _ _ => rfl

/-- An IDLE writer in RUNNING takes its front entry, or enters WAITING_SPACE. -/
theorem takeEntry_idle (hp : s.supply.part = .running) (hq : s.queue.entries = e :: rest)
    (hl : s.writer.log = some l) (hw : s.writer.state = .idle) : s.takeEntry =
      if s.cfg.logSize - l.used < e.body.length + 4 then s.waitForSpace else s.assemble e l := by
  rw [State.takeEntry, hw, hq, hl]
  exact if_pos hp

/-- A writer that waits for space takes the entry it holds once it fits, and goes on waiting until then. -/
theorem findSpace_waiting (hp : s.supply.part = .running) (hq : s.queue.entries = e :: rest)
    (hl : s.writer.log = some l) (hw : s.writer.state = .waitingSpace) : s.findSpace =
      if e.body.length + 4 ≤ s.cfg.logSize - l.used then s.assemble e l else s := by
  rw [State.findSpace, hw, hq, hl]
  simp only [hp, true_and]
  rfl

end

/-- Settles O43: both writer states by the room for the front entry, and the record that is assembled. -/
theorem writerTakesEntry : Obligations.WriterTakesEntry := by
  intro s e rest l hp hq hl length fits openSeq covered chain assembled
  have hassembled : s.assemble e l = assembled := by
    rw [State.assemble, State.openSeqOf_eq]
    rfl
  have hroom : fits ↔ ¬s.cfg.logSize - l.used < e.body.length + 4 := Nat.not_lt.symm
  have takes (u : State) (h : s.takeEntry = u) :
      exec .writerTakeEntry s = .next (State.settlePorts u s) := by rw [← h]; rfl
  have finds (u : State) (h : s.findSpace = u) :
      exec .spaceFound s = .next (State.settlePorts u s) := by rw [← h]; rfl
  refine ⟨fun hw hf => takes _ ?_, fun hw hf => takes _ ?_, fun hw hf => finds _ ?_,
    fun hw hf => finds _ ?_⟩
  · rw [takeEntry_idle hp hq hl hw, if_neg (hroom.1 hf), hassembled]
  · rw [takeEntry_idle hp hq hl hw, if_pos (not_not.1 (mt hroom.2 hf))]
    rfl
  · rw [findSpace_waiting hp hq hl hw, if_pos hf, hassembled]
  · rw [findSpace_waiting hp hq hl hw, if_neg hf]

/-! ### A word of the record, and the halt (R132, R134) -/

/-- The writer's memory access at a word of its record ends (R132). -/
theorem exec_writerWordWrite {s : State} {record : List Word} {chain : Half} {n : Nat} {l : LogState}
    (ho : s.arbiter.owner = some .writer) (hw : s.writer.state = .writing record chain n)
    (hl : s.writer.log = some l) (m : MemAnswer) : exec (.writerWordWrite m) s =
      .next (State.settlePorts (s.freePort.wordWritten l record chain n m) s) := by
  change execWriterWordWrite m s = _
  rw [execWriterWordWrite, ho, hw, hl]

/-- The word stands in memory by memory's answer; OK goes on under the lockout, FAULT halts the writer. -/
theorem wordWritten_eq (s : State) (l : LogState) (record : List Word) (chain : Half) (n : Nat)
    (m : MemAnswer) :
    let u := Safety.written s m (s.cfg.logBase + 4 * ((l.head + n) % s.cfg.logSize)) (record.getD n 0)
    s.wordWritten l record chain n m = if m.isOk = true then
      { u with
        writer := { u.writer with
          state := if n + 1 < record.length then .writing record chain (n + 1)
            else .verifying record chain }
        arbiter := { u.arbiter with writer := true } }
      else u.haltWriter := by
  rw [← State.memWrite_eq]
  rfl

/-- Settles O45: the word by memory's answer and its place in the record. -/
theorem recordWordWritten : Obligations.RecordWordWritten := by
  intro s record chain n l m ho hw hl u goesOn
  have hexec := exec_writerWordWrite ho hw hl m
  rw [wordWritten_eq] at hexec
  refine ⟨fun hm hn => ?_, fun hm hn => ?_, fun hm => ?_⟩
  · rw [if_pos (isOk_iff.2 hm), if_pos hn] at hexec
    exact hexec
  · rw [if_pos (isOk_iff.2 hm), if_neg (Nat.not_lt.2 hn)] at hexec
    exact hexec
  · rw [if_neg (mt isOk_iff.1 (not_not_intro hm))] at hexec
    exact hexec

/-! ### The read-back (R120, R133, R134) -/

/-- The read-back of the trailer ends (R133). -/
theorem exec_trailerReadBack {s : State} {record : List Word} {chain : Half} {l : LogState}
    (ho : s.arbiter.owner = some .writer) (hw : s.writer.state = .verifying record chain)
    (hl : s.writer.log = some l) (m : MemAnswer) : exec (.trailerReadBack m) s =
      .next (State.settlePorts (s.freePort.readBack l record chain m) s) := by
  change execTrailerReadBack m s = _
  rw [execTrailerReadBack, ho, hw, hl]

section
variable {s : State} {l : LogState} {record : List Word} {m : MemAnswer}

/-- The address from which the trailer is read back (R123, R133). -/
def trailerAddress (s : State) (l : LogState) (record : List Word) : Nat :=
  s.cfg.logBase + 4 * ((l.head + (record.length - 1)) % s.cfg.logSize)

theorem readBack_match (h : s.memRead m (trailerAddress s l record) = some (record.getLastD 0))
    (chain : Half) : s.readBack l record chain m = s.commit l record chain := by
  change s.memRead m (recordAddr s.cfg l (record.length - 1)) = _ at h
  simp only [State.readBack, h, if_true]

theorem readBack_differs (h : s.memRead m (trailerAddress s l record) ≠ some (record.getLastD 0))
    (chain : Half) : s.readBack l record chain m = s.haltWriter := by
  change s.memRead m (recordAddr s.cfg l (record.length - 1)) ≠ _ at h
  unfold State.readBack
  split
  · next w hw => exact if_neg fun hlast => h (by rw [hw, hlast])
  · rfl

end

/-- The queue that a commit leaves: the front entry gone, the LOSS record of a pending loss in its place
(R120). -/
def committedQueue (s : State) (rest : List QEntry) : EvidenceQueue :=
  match s.queue.loss with
  | none => { entries := rest, loss := none }
  | some p =>
    { entries :=
        { time := s.clock.seconds, slot := none, body := .loss p.count p.first p.last } :: rest
      loss := none }

/-- The account table that a commit leaves: an OPENED record gives its sequence, a CLOSED one frees its entry
(R17, R28). -/
def committedAccounts (s : State) (e : QEntry) (seq : Word) : List Entry :=
  match e.slot, e.body with
  | some slot, .opened .. => s.accounts.set slot ((s.account slot).withRecordSeq seq)
  | some slot, .closed .. => s.accounts.set slot .free
  | _, _ => s.accounts

theorem removeFront_eq {s : State} {e : QEntry} {rest : List QEntry} (h : s.queue.entries = e :: rest) :
    s.removeFront = { s with queue := committedQueue s rest } := by
  unfold State.removeFront committedQueue
  cases hloss : s.queue.loss <;> simp [h, hloss, State.now]

theorem accountVerified_eq (s : State) (e : QEntry) (seq : Word) :
    s.accountVerified e seq = { s with accounts := committedAccounts s e seq } := by
  unfold State.accountVerified committedAccounts
  cases e.slot with
  | none => rfl
  | some slot => cases e.body <;> rfl

/-- The commit of a verified record, field by field (R133). -/
theorem commit_eq {s : State} {e : QEntry} {rest : List QEntry} (h : s.queue.entries = e :: rest)
    (l : LogState) (record : List Word) (chain : Half) : s.commit l record chain =
      State.judgeNearFull { s with
        writer := { s.writer with
          state := .idle, log := some (l.advance s.cfg.logSize record.length), chain := chain }
        queue := committedQueue s rest
        receipt := s.receipt.afterRemoval s.queue.loss.isSome
        accounts := committedAccounts s e l.nextSeq
        arbiter := { s.arbiter with lockout := none } } := by
  rw [State.commit, h]
  dsimp only
  rw [removeFront_eq (by exact h), accountVerified_eq]
  rfl

/-- Settles O46: a read-back equal to the trailer commits field by field, and any other halts. -/
theorem readBackDecides : Obligations.ReadBackDecides := by
  constructor
  · intro s record chain l m w e rest ho hw hl hq hread hlast opened accounts queue receipt
    subst hlast
    have hopened (x : Entry) : x.withRecordSeq l.nextSeq = opened x := by
      cases x with
      | closing c opening t => cases opening <;> rfl
      | free | staged _ _ | tracked _ _ => rfl
    have haccounts : committedAccounts s e l.nextSeq = accounts := by
      unfold committedAccounts accounts
      cases e.slot with
      | none => rfl
      | some slot =>
        cases e.body with
        | opened => exact congrArg (s.accounts.set slot) (hopened _)
        | _ => rfl
    have hreceipt : s.receipt.afterRemoval s.queue.loss.isSome = receipt := by
      unfold Receipt.afterRemoval receipt
      cases s.queue.loss <;> rfl
    rw [← haccounts, ← hreceipt, exec_trailerReadBack ho hw hl, readBack_match (by exact hread),
      commit_eq (by exact hq)]
    rfl
  · intro s record chain l m ho hw hl hread
    rw [exec_trailerReadBack ho hw hl, readBack_differs (by exact hread)]
    rfl

end Sys2Proof
end

section
/-! The word read for an EXPORTED in handling (R102, R138 to R140): the report decided, and the waiting one
released. -/

namespace Sys2Proof

open Machine

theorem exec_exportCheckRead {s : State} {r : Report}
    (ho : s.arbiter.owner = some (.reader .exportCheck)) (hh : s.assembler.handling = some r)
    (m : MemAnswer) : exec (.exportCheckRead m) s = .next (State.settlePorts
      (s.freePort.judgeExport r (s.memRead m (s.cfg.logAddr r.exportTail))).releaseWaiting s) := by
  change execExportCheckRead m s = _
  rw [execExportCheckRead, ho, hh]

/-- A position within the log stands at its own words from the log base (R122). -/
theorem logAddr_of_lt {cfg : Setup} {p : Nat} (h : p < cfg.logSize) :
    cfg.logAddr p = cfg.logBase + 4 * p := by
  rw [Setup.logAddr, Nat.mod_eq_of_lt h]

theorem exportWordOk_iff {lastSeq w : Word} : exportWordOk lastSeq w = true ↔
    bits w 31 24 = 0x5C ∧ w.extractLsb' 0 15 = (lastSeq + 1).extractLsb' 0 15 := by
  rw [exportWordOk, Bool.and_eq_true, beq_iff_eq, hasMarker, beq_iff_eq]
  rfl

section
variable {s : State} {r : Report} {l : LogState}

/-- An EXPORTED taken away from the head leaves the words behind its new tail (R140). -/
theorem takeExport_offHead (hp : r.exportTail ≠ l.head) : s.takeExport r l =
    { State.judgeNearFull { s with
        writer := { s.writer with
          log := some { l with
            tail := r.exportTail
            used := l.used - (r.exportTail + s.cfg.logSize - l.tail) % s.cfg.logSize } } } with
      receipt := Safety.takenNothingQueued s r.seq } := by
  rw [State.takeExport, State.take_nothingQueued (s := s) (by simp) (by simp), if_neg hp]
  rfl

theorem judgeExport_fault : s.judgeExport r none = Safety.refused s r.seq .badExport := by
  unfold State.judgeExport
  cases s.writer.log <;> rfl

/-- Away from the head and within the words used, the word read decides (R138, R139). -/
theorem judgeExport_word (hl : s.writer.log = some l) (hp : r.exportTail ≠ l.head)
    (hr : exportReadable s.cfg l r.exportTail = true) (w : Word) : s.judgeExport r (some w) =
      if exportWordOk r.exportSeq w = true then s.takeExport r l
      else Safety.refused s r.seq .badExport := by
  simp only [State.judgeExport, hl, if_neg hp, hr, Bool.true_and]
  rfl

end

/-- Settles O30: the judgement by the word read, before the waiting report is released. -/
theorem exportCheckDecides : Obligations.ExportCheckDecides := by
  intro s seq lastSeq newTail w m l ho hl hh hp hlt hspan u fits refusal
  have hread : exec (.exportCheckRead m) s = .next (State.settlePorts
      (u.judgeExport (exportedReport seq 0 lastSeq newTail)
        (s.memRead m (s.cfg.logBase + 4 * newTail.toNat))).releaseWaiting s) := by
    rw [exec_exportCheckRead ho hh, ← logAddr_of_lt hlt]
    rfl
  have hword (hm : s.memRead m (s.cfg.logBase + 4 * newTail.toNat) = some w) :
      exec (.exportCheckRead m) s = .next (State.settlePorts (State.releaseWaiting
        (if exportWordOk lastSeq w = true then u.takeExport (exportedReport seq 0 lastSeq newTail) l
          else Safety.refused u seq .badExport)) s) := by
    rw [hread, hm, judgeExport_word (s := u) (r := exportedReport seq 0 lastSeq newTail) hl hp
      (exportReadable_iff.2 ⟨hlt, hspan⟩)]
    rfl
  refine ⟨fun hm => ?_, fun hm hf => ?_, fun hm hf => ?_⟩
  · subst hm
    exact hread.trans (by rw [State.memRead, judgeExport_fault]; rfl)
  · exact (hword hm).trans (by rw [if_neg (mt exportWordOk_iff.1 hf)])
  · rw [hword hm, if_pos (exportWordOk_iff.2 hf), takeExport_offHead (by exact hp)]
    rfl

end Sys2Proof
end

section
/-! The completions of a host access at memory (R147 to R151, R154), as the filter's treatment and memory's
answer give them. -/

namespace Sys2Proof

open Machine

/-! ### A host read (R147) and a full-word write (R148, R150) -/

section
variable {s : State} {a : HostAccess} {m : MemAnswer}

theorem finishRead_word {w : Word} (h : s.memRead m (a.addr.toNat / 4 * 4) = some w) :
    s.finishRead a m = Safety.answered s a (.readOk
      ((List.range a.width.bytes).map (fun i => byteOf w (a.addr.toNat % 4 + i)))) := by
  change s.memRead m a.wordAddr = some w at h
  rw [State.finishRead, h]
  rfl

theorem finishRead_fault : s.finishRead a .fault = Safety.rejected s a .memoryFault := rfl

theorem triggersLoad_iff : s.triggersLoad a = true ↔
    a.addr.toNat = 252 ∧ ∀ e ∈ s.accounts, e = Entry.free := by
  have haboard (e : Entry) : e.aboard = false ↔ e = .free := by
    cases e <;> simp [Entry.aboard, Entry.consignment]
  have haddr : a.addr = 252#24 ↔ a.addr.toNat = 252 := BitVec.toNat_inj.symm
  simp [State.triggersLoad, State.anyAboard, haboard, haddr]

theorem triggersLoad_written (m : MemAnswer) (address : Nat) (w : Word) :
    (Safety.written s m address w).triggersLoad a = s.triggersLoad a := rfl

/-- The word stands in memory by memory's answer; an OK to word 63 with no account aboard triggers a load. -/
theorem finishWrite_eq (s : State) (a : HostAccess) (m : MemAnswer) :
    let u := Safety.written s m (a.addr.toNat / 4 * 4) a.data
    s.finishWrite a m = if m.isOk = true then
      Safety.answered (if u.triggersLoad a = true then Safety.loadRaised u else u) a .writeOk
      else Safety.rejected u a .memoryFault := by
  rw [← State.memWrite_eq]
  rfl

theorem finishWrite_ok (hm : m ≠ .fault)
    (ht : ¬(a.addr.toNat = 252 ∧ ∀ e ∈ s.accounts, e = Entry.free)) : s.finishWrite a m =
      Safety.answered (Safety.written s m (a.addr.toNat / 4 * 4) a.data) a .writeOk := by
  rw [finishWrite_eq, if_pos (isOk_iff.2 hm), triggersLoad_written,
    if_neg (mt triggersLoad_iff.1 ht)]

theorem finishWrite_triggers (hm : m ≠ .fault)
    (ht : a.addr.toNat = 252 ∧ ∀ e ∈ s.accounts, e = Entry.free) : s.finishWrite a m =
      Safety.answered (Safety.loadRaised (Safety.written s m (a.addr.toNat / 4 * 4) a.data)) a
        .writeOk := by
  rw [finishWrite_eq, if_pos (isOk_iff.2 hm), triggersLoad_written, if_pos (triggersLoad_iff.2 ht)]

theorem finishWrite_fault : s.finishWrite a .fault =
    Safety.rejected (Safety.written s .fault (a.addr.toNat / 4 * 4) a.data) a .memoryFault := rfl

end

/-! ### A read-modify-write (R149, R158) -/

/-- A byte of a word is the field of its eight bits (R147). -/
theorem byteOf_eq_extractLsb' (w : Word) (k : Nat) : byteOf w k = w.extractLsb' (24 - 8 * k) 8 := by
  refine BitVec.eq_of_toNat_eq ?_
  simp [byteOf, BitVec.extractLsb'_toNat]

/-- The bytes of a word put together from four. -/
theorem byteOf_bytes (x y z w : Byte) : byteOf (x ++ y ++ z ++ w) 0 = x ∧
    byteOf (x ++ y ++ z ++ w) 1 = y ∧ byteOf (x ++ y ++ z ++ w) 2 = z ∧
    byteOf (x ++ y ++ z ++ w) 3 = w := by
  simp only [byteOf_eq_extractLsb']
  refine ⟨?_, ?_, ?_, ?_⟩
  · rw [BitVec.extractLsb'_append_eq_of_le (by omega), BitVec.extractLsb'_append_eq_of_le (by omega)]
    exact BitVec.extractLsb'_append_eq_left
  · rw [BitVec.extractLsb'_append_eq_of_le (by omega), BitVec.extractLsb'_append_eq_of_le (by omega)]
    exact BitVec.extractLsb'_append_eq_right
  · rw [BitVec.extractLsb'_append_eq_of_le (by omega)]
    exact BitVec.extractLsb'_append_eq_right
  · exact BitVec.extractLsb'_append_eq_right

/-- The merged word holds the host's data in the bytes the access names, and the word read elsewhere. -/
theorem byteOf_merge (a : HostAccess) (w : Word) {k : Nat} (hk : k < 4) :
    byteOf (a.merge w) k = if a.names k = true then byteOf a.data k else byteOf w k := by
  obtain ⟨h0, h1, h2, h3⟩ := byteOf_bytes
    (if a.names 0 then byteOf a.data 0 else byteOf w 0)
    (if a.names 1 then byteOf a.data 1 else byteOf w 1)
    (if a.names 2 then byteOf a.data 2 else byteOf w 2)
    (if a.names 3 then byteOf a.data 3 else byteOf w 3)
  have : k = 0 ∨ k = 1 ∨ k = 2 ∨ k = 3 := by omega
  rcases this with rfl | rfl | rfl | rfl
  · exact h0
  · exact h1
  · exact h2
  · exact h3

theorem names_iff (a : HostAccess) (k : Nat) : a.names k = true ↔
    a.addr.toNat % 4 ≤ k ∧ k < a.addr.toNat % 4 + a.width.bytes := by
  rw [HostAccess.names, Bool.and_eq_true, decide_eq_true_iff, decide_eq_true_iff]
  rfl

section
variable {s : State} {a : HostAccess} {m : MemAnswer}

theorem finishRmwRead_word {w : Word} (h : s.memRead m (a.addr.toNat / 4 * 4) = some w) :
    s.finishRmwRead a m = Safety.waitsAtMemory s a (.rmwWrite (a.merge w)) := by
  change s.memRead m a.wordAddr = some w at h
  rw [State.finishRmwRead, h]
  rfl

theorem finishRmwRead_fault :
    s.finishRmwRead a .fault = Safety.rejected (Safety.unlocked s) a .memoryFault := rfl

theorem finishRmwWrite_ok (hm : m ≠ .fault) (merged : Word) : s.finishRmwWrite a merged m =
    Safety.answered (Safety.unlocked (Safety.written s m (a.addr.toNat / 4 * 4) merged)) a
      .writeOk := by
  rw [← State.memWrite_eq]
  exact if_pos (isOk_iff.2 hm)

theorem finishRmwWrite_fault (merged : Word) : s.finishRmwWrite a merged .fault =
    Safety.rejected (Safety.unlocked (Safety.written s .fault (a.addr.toNat / 4 * 4) merged)) a
      .memoryFault := rfl

/-! ### A write to the report window (R93, R154) -/

theorem finishWindow_ok (hm : m ≠ .fault) (offset : Nat) : s.finishWindow a offset m =
    Safety.answered ((Safety.written s m (a.addr.toNat / 4 * 4) a.data).feed offset a.data) a
      .writeOk := by
  rw [finishWindow_eq, if_pos (isOk_iff.2 hm)]

theorem finishWindow_fault (offset : Nat) : s.finishWindow a offset .fault =
    Safety.rejected (Safety.written s .fault (a.addr.toNat / 4 * 4) a.data) a .memoryFault := rfl

end

end Sys2Proof
end

section
/-! The reset input asserted (R204): the memory access in progress and the host access taken by the filter
brought to their ends, and the restart values behind them. -/

namespace Sys2Proof

open Machine

/-! ### A host access taken by the filter completes whole (R143, R158) -/

section
variable {s : State} {a : HostAccess} {job : HostJob} {m n : MemAnswer}

/-- Where the port carries no access at memory nothing is to be completed. -/
theorem finishTaken_idle
    (h : ∀ b job, s.port.current ≠ some { acc := b, phase := .atMemory job }) :
    s.finishTaken m n = s := by
  unfold State.finishTaken
  split
  · next b job hb => exact absurd hb (h b job)
  · rfl

/-- An access of one memory access completes with the first answer. -/
theorem finishTaken_single (h : s.port.current = some { acc := a, phase := .atMemory job })
    (hj : job ≠ .rmwRead) : s.finishTaken m n = s.finishJob a job m := by
  rw [State.finishTaken, h]
  cases job with
  | rmwRead => exact absurd rfl hj
  | read | write | windowWrite _ | rmwWrite _ | suppressed _ => rfl

/-- A read-modify-write whose read completes OK runs to its write, with the second answer. -/
theorem finishTaken_rmwRead_word (h : s.port.current = some { acc := a, phase := .atMemory .rmwRead })
    {w : Word} (hw : s.memRead m (a.addr.toNat / 4 * 4) = some w) : s.finishTaken m n =
      (Safety.waitsAtMemory s a (.rmwWrite (a.merge w))).finishRmwWrite a (a.merge w) n := by
  rw [State.finishTaken, h]
  simp only [State.finishWhole, State.finishJob, finishRmwRead_word hw]
  rfl

/-- A read-modify-write whose read ends FAULT makes no write. -/
theorem finishTaken_rmwRead_fault
    (h : s.port.current = some { acc := a, phase := .atMemory .rmwRead }) :
    s.finishTaken .fault n = Safety.rejected (Safety.unlocked s) a .memoryFault := by
  rw [State.finishTaken, h]
  rfl

end

/-! ### The memory access in progress, by its requester (R137, R181, R204) -/

section
variable {s : State} {r : ResetAnswers}

theorem endWork_idle (ho : s.arbiter.owner = none) :
    s.endWork r = (Safety.freed s).finishTaken r.hostFirst r.hostSecond := by
  rw [State.endWork, ho]
  rfl

theorem endWork_upstream (ho : s.arbiter.owner = some .upstream) :
    s.endWork r = (Safety.freed s).finishTaken r.inProgress r.hostFirst := by
  rw [State.endWork, ho]
  rfl

theorem endWork_reader {c : ReaderClient} (ho : s.arbiter.owner = some (.reader c)) :
    s.endWork r = (Safety.freed s).finishTaken r.hostFirst r.hostSecond := by
  rw [State.endWork, ho]
  rfl

theorem endWork_writing {record : List Word} {chain : Half} {i : Nat} {l : LogState}
    (ho : s.arbiter.owner = some .writer) (hw : s.writer.state = .writing record chain i)
    (hl : s.writer.log = some l) : s.endWork r =
      (Safety.freed (Safety.written s r.inProgress
        (s.cfg.logBase + 4 * ((l.head + i) % s.cfg.logSize)) (record.getD i 0))).finishTaken
          r.hostFirst r.hostSecond := by
  rw [State.endWork, ho, ← State.memWrite_eq]
  simp only [State.endWriterAccess, hw, hl]
  rfl

theorem endWork_verifying {record : List Word} {chain : Half}
    (ho : s.arbiter.owner = some .writer) (hw : s.writer.state = .verifying record chain) :
    s.endWork r = (Safety.freed s).finishTaken r.hostFirst r.hostSecond := by
  rw [State.endWork, ho]
  simp only [State.endWriterAccess, hw]
  rfl

theorem endWork_status {picture : List Word} {i : Nat} (ho : s.arbiter.owner = some .status)
    (hw : s.status.rewrite = some (.writing picture i)) : s.endWork r =
      (State.latchIf (Safety.freed (Safety.written s r.inProgress
        (s.cfg.statusBase + 4 * statusOrder i) (picture.getD (statusOrder i) 0)))
        (!r.inProgress.isOk) .writerFault).finishTaken r.hostFirst r.hostSecond := by
  rw [State.endWork, ho, ← State.memWrite_eq]
  simp only [State.endStatusAccess, hw, State.latchIf_eq]
  rfl

end

/-! ### The reset input asserted -/

theorem takesReset_iff {p : PartState} :
    p.takesReset = true ↔ p = .opened ∨ p = .scanning ∨ p = .running := by
  cases p <;> simp [PartState.takesReset]

theorem actReset_eq (s : State) (r : ResetAnswers) : s.actReset r = Safety.resetActed s r := by
  rw [State.actReset, State.beginReset, State.now, State.endWork_clock]
  rfl

/-- Settles O58: the assertion by part state, the access in progress by its requester, and the host access
taken by the filter by its treatment. -/
theorem resetAsserted : Obligations.ResetAsserted := by
  refine ⟨fun s r => ?_, fun s r => ?_, fun u a m n => ?_⟩
  · intro becomes acted
    have asserted (hpin : s.supply.resetPin = false) {v : State} (hv : s.assertReset r = v) :
        becomes (v.settlePorts s) := hv ▸ if_neg (by simp [hpin])
    refine ⟨fun hpin => if_pos hpin, fun hpin => ⟨fun hpart => ?_, fun hpart => ?_⟩⟩
    · refine asserted hpin (v := acted.assertPin) ?_
      rw [State.assertReset, if_pos (takesReset_iff.2 hpart), actReset_eq]
    · have hwaits : ¬s.supply.part.takesReset = true := by
        rcases hpart with hretain | ⟨v, hv⟩ <;> simp [*, PartState.takesReset]
      exact asserted hpin (v := s.assertPin) (if_neg hwaits)
  · intro goesOn
    refine ⟨endWork_idle, endWork_upstream, fun record chain i l => endWork_writing,
      fun record chain => endWork_verifying, fun c => endWork_reader, fun picture i ho hw => ?_⟩
    intro word v
    have hend := endWork_status (r := r) ho hw
    refine ⟨fun hm => ?_, fun hm => ?_⟩
    · rw [isOk_iff.2 hm] at hend
      exact hend
    · rw [hm] at hend
      simp only [goesOn, v, hm]
      exact hend
  · intro taken ends address stored triggers suppressed merges
    have single {job : HostJob} (h : taken job) (hj : job ≠ .rmwRead) {v : State}
        (hv : u.finishJob a job m = v) : ends v := (finishTaken_single h hj).trans hv
    refine ⟨finishTaken_idle, fun h => ⟨fun w hw => ?_, fun hm => ?_⟩,
      fun h => ⟨fun hm ht => ?_, fun hm ht => ?_, fun hm => ?_⟩,
      fun i h => ⟨fun hm => ?_, fun hm => ?_⟩,
      fun h => ⟨fun w hw => ⟨a.merge w, fun k hk => ?_, fun hn => ?_, fun hn => ?_⟩, fun hm => ?_⟩,
      fun merged h => ⟨fun hm => ?_, fun hm => ?_⟩, fun reason h => ?_⟩
    · exact single h (by decide) (finishRead_word hw)
    · subst hm
      exact single h (by decide) finishRead_fault
    · exact single h (by decide) (finishWrite_ok hm ht)
    · exact single h (by decide) (finishWrite_triggers hm ht)
    · subst hm
      exact single h (by decide) finishWrite_fault
    · exact single h HostJob.noConfusion (finishWindow_ok hm i)
    · subst hm
      exact single h HostJob.noConfusion (finishWindow_fault i)
    · rw [byteOf_merge a w hk, ← names_iff]
      exact ⟨fun hnamed => if_pos hnamed, fun hnamed => if_neg hnamed⟩
    · exact (finishTaken_rmwRead_word h hw).trans (finishRmwWrite_ok hn _)
    · subst hn
      exact (finishTaken_rmwRead_word h hw).trans (finishRmwWrite_fault _)
    · subst hm
      exact finishTaken_rmwRead_fault h
    · exact single h HostJob.noConfusion (finishRmwWrite_ok hm merged)
    · subst hm
      exact single h HostJob.noConfusion (finishRmwWrite_fault merged)
    · exact single h HostJob.noConfusion rfl

end Sys2Proof
end

section
/-! Every command completes (R154), and a whole word in memory (R144, R147). -/

namespace Sys2Proof

open Machine

/-- Settles O6: the command ends idle or with one operation, and answers next either way. -/
theorem everyCommandCompletes : Obligations.EveryCommandCompletes := by
  intro i s
  obtain ⟨t, hnext, -⟩ := exec_ends i s
  exact ⟨t, hnext⟩

/-- Settles O35: the bytes of the word by their places, and the canonical form kept. -/
theorem wordStored : Obligations.WordStored := by
  intro m a w hm
  have hbyte (k : Nat) (hk : k < 4) :
      (m.writeWord a w).readByte (a + k) = w.extractLsb' (24 - 8 * k) 8 :=
    (Mem.readByte_writeWord_same hm a k w hk).trans (byteOf_eq_extractLsb' w k)
  exact ⟨Mem.readWord_writeWord hm a w, hbyte 0 (by omega), hbyte 1 (by omega), hbyte 2 (by omega),
    hbyte 3 (by omega), fun b hb => Mem.readByte_writeWord_other hm a b w hb, Mem.wf_writeWord a w hm⟩

end Sys2Proof
end

section
/-! The commands that complete a host access at memory, each by the treatment the filter gave it (R147 to
R151, R154, R158). -/

namespace Sys2Proof

open Machine

/-! ### The completions -/

section
variable {s : State} {a : HostAccess}

theorem exec_passThroughRead (h : Safety.AtMemory s a .read) (m : MemAnswer) :
    exec (.passThroughRead m) s =
      .next (State.settlePorts ((Safety.freed s).finishRead a m) s) := by
  change execPassThroughRead m s = _
  rw [execPassThroughRead, upstreamJob_of_atMemory h]
  rfl

theorem exec_passThroughWrite (h : Safety.AtMemory s a .write) (m : MemAnswer) :
    exec (.passThroughWrite m) s =
      .next (State.settlePorts ((Safety.freed s).finishWrite a m) s) := by
  change execPassThroughWrite m s = _
  rw [execPassThroughWrite, upstreamJob_of_atMemory h]
  rfl

/-- A write that triggers a load is the event of LOAD_TRIGGER too (R166, log 8). -/
theorem exec_loadTrigger (h : Safety.AtMemory s a .write) (ht : s.triggersLoad a = true) :
    exec .loadTrigger s = exec (.passThroughWrite .ok) s := by
  rw [exec_passThroughWrite h]
  change execLoadTrigger s = _
  rw [execLoadTrigger, upstreamJob_of_atMemory h]
  exact if_pos ht

theorem exec_rmwReadDone (h : Safety.AtMemory s a .rmwRead) (m : MemAnswer) :
    exec (.rmwReadDone m) s =
      .next (State.settlePorts ((Safety.freed s).finishRmwRead a m) s) := by
  change execRmwReadDone m s = _
  rw [execRmwReadDone, upstreamJob_of_atMemory h]
  rfl

theorem exec_rmwWriteDone {merged : Word} (h : Safety.AtMemory s a (.rmwWrite merged))
    (m : MemAnswer) : exec (.rmwWriteDone m) s =
      .next (State.settlePorts ((Safety.freed s).finishRmwWrite a merged m) s) := by
  change execRmwWriteDone m s = _
  rw [execRmwWriteDone, upstreamJob_of_atMemory h]
  rfl

theorem exec_suppressedWrite {reason : RejectReason} (h : Safety.AtMemory s a (.suppressed reason))
    (m : MemAnswer) : exec (.suppressedWrite m) s =
      .next (State.settlePorts ((Safety.freed s).finishSuppressed a reason) s) := by
  change execSuppressedWrite m s = _
  rw [execSuppressedWrite, upstreamJob_of_atMemory h]
  rfl

end

/-! ### The bytes of a word read (R147) -/

theorem byteOf_readWord (m : Mem) (b : Nat) {k : Nat} (hk : k < 4) :
    byteOf (m.readWord b) k = m.readByte (b + k) := by
  obtain ⟨h0, h1, h2, h3⟩ := byteOf_bytes (m.readByte b) (m.readByte (b + 1)) (m.readByte (b + 2))
    (m.readByte (b + 3))
  have : k = 0 ∨ k = 1 ∨ k = 2 ∨ k = 3 := by omega
  rcases this with rfl | rfl | rfl | rfl
  · exact h0
  · exact h1
  · exact h2
  · exact h3

/-- An aligned access lies within its word. -/
theorem aligned_within {a : HostAccess} (h : a.addr.toNat % a.width.bytes = 0) :
    a.addr.toNat % 4 + a.width.bytes ≤ 4 := by
  cases hw : a.width <;> simp only [hw, Width.bytes] at h ⊢ <;> omega

/-- The bytes that an aligned access names in its word are those of memory at its address. -/
theorem namedBytes_readWord {a : HostAccess} (m : Mem) (h : a.addr.toNat % a.width.bytes = 0) :
    (List.range a.width.bytes).map
        (fun i => byteOf (m.readWord (a.addr.toNat / 4 * 4)) (a.addr.toNat % 4 + i)) =
      (List.range a.width.bytes).map (fun i => m.readByte (a.addr.toNat + i)) := by
  have hwithin := aligned_within h
  refine List.map_congr_left fun i hi => ?_
  have hi' := List.mem_range.1 hi
  rw [byteOf_readWord m _ (by omega)]
  congr 1
  omega

/-- Settles O38: a read and a full-word write at memory, by memory's answer. -/
theorem hostAccessCompletes : Obligations.HostAccessCompletes := by
  constructor
  · intro s a h haligned
    have reads {m : MemAnswer} {v : State} (hv : (Safety.freed s).finishRead a m = v) :
        exec (.passThroughRead m) s = .next (State.settlePorts v s) := hv ▸ exec_passThroughRead h m
    refine ⟨reads ?_, fun w => reads ?_, reads finishRead_fault⟩
    · rw [finishRead_word (m := .ok) rfl]
      exact congrArg (fun bytes => Safety.answered (Safety.freed s) a (.readOk bytes))
        (namedBytes_readWord s.mem haligned)
    · rw [finishRead_word (m := .corrupt w) rfl]
      simp only [byteOf_eq_extractLsb']
  · intro s a m h u triggers loading
    have writes {m : MemAnswer} {v : State} (hv : (Safety.freed s).finishWrite a m = v) :
        exec (.passThroughWrite m) s = .next (State.settlePorts v s) := hv ▸ exec_passThroughWrite h m
    refine ⟨fun hm ht => writes (finishWrite_ok hm ht), fun hm ht => writes (finishWrite_triggers hm ht),
      fun hm ht => ?_, fun hm => ?_⟩
    · subst hm
      exact (exec_loadTrigger h (triggersLoad_iff.2 ht)).trans
        (writes (finishWrite_triggers (by decide) ht))
    · subst hm
      exact writes finishWrite_fault

/-- Settles O39: the read with the word it merges, and the write, by memory's answer. -/
theorem readModifyWrite : Obligations.ReadModifyWrite := by
  intro s a merged x m unlocked named read u
  have merges (h : Safety.AtMemory s a .rmwRead) {m : MemAnswer} {w : Word} {byte : Nat → Byte}
      (hw : s.memRead m (a.addr.toNat / 4 * 4) = some w) (hbyte : ∀ k < 4, byteOf w k = byte k) :
      read m byte := by
    refine ⟨a.merge w, ?_, fun k hk => ?_⟩
    · rw [exec_rmwReadDone h, finishRmwRead_word (s := Safety.freed s) hw]
    · rw [byteOf_merge a w hk, ← hbyte k hk]
      exact ⟨fun hn => if_pos ((names_iff a k).2 hn), fun hn => if_neg (mt (names_iff a k).1 hn)⟩
  refine ⟨fun h => ⟨merges h rfl fun k hk => byteOf_readWord s.mem _ hk, merges h rfl fun _ _ => rfl,
    exec_rmwReadDone h .fault⟩, fun h => ⟨fun hm => ?_, fun hm => ?_⟩⟩
  · rw [exec_rmwWriteDone h, finishRmwWrite_ok hm]
    rfl
  · subst hm
    exact exec_rmwWriteDone h .fault

/-- The violation counted and latched, the access kept and answered ERROR; memory plays no part. -/
theorem finishSuppressed_eq (s : State) (a : HostAccess) (reason : RejectReason) :
    s.finishSuppressed a reason = Safety.answered
      { s with
        alert := { s.alert with
          latched := s.alert.latched ||| Cause.protectViolation.bit
          counters := { s.alert.counters with
            protectViolations := min (s.alert.counters.protectViolations + 1) 65535 } }
        rejected := some
          { addr := a.addr, width := a.width, dir := a.dir, reason := reason
            time := s.clock.seconds } } a .error := rfl

/-- Settles O40: the completion of a suppressed write, whatever its read answered. -/
theorem suppressedWriteRefused : Obligations.SuppressedWriteRefused := by
  intro s a reason m h
  rw [exec_suppressedWrite h, finishSuppressed_eq]
  rfl

end Sys2Proof
end

section
/-! The fifth test of the judgement: a host write by the region that holds it (R145, R146, R148 to R152,
R176). -/

namespace Sys2Proof

open Machine

/-! ### The regions of a setup whose regions pass (R146, R170) -/

/-- The status block and the log lie apart from the setup block, the window and each other; the status block
stands on a word address. -/
theorem regionOk_apart {c : Setup} (h : c.regionOk = true) :
    c.statusBase % 4 = 0 ∧ 256 ≤ c.statusBase ∧ 256 ≤ c.logBase ∧
      (c.statusBase + 192 ≤ c.logBase ∨ c.logBase + 4 * c.logSize ≤ c.statusBase) ∧
      (c.windowBase + 128 ≤ c.logBase ∨ c.logBase + 4 * c.logSize ≤ c.windowBase) := by
  simp only [Setup.regionOk, disjointSpans, Bool.and_eq_true, Bool.or_eq_true, beq_iff_eq,
    decide_eq_true_iff] at h
  omega

theorem inBlock_iff {base size n : Nat} :
    inBlock base size n = true ↔ base ≤ n ∧ n < base + size := by
  simp [inBlock]

theorem regionOf_setup (setup : Option Setup) {n : Nat} (h : n < 256) :
    regionOf setup n = .setupBlock := if_pos h

theorem regionOf_unset {n : Nat} (h : 256 ≤ n) : regionOf none n = .plain :=
  if_neg (Nat.not_lt.2 h)

section
variable {c : Setup} (hr : c.regionOk = true) {n : Nat}
include hr

theorem regionOf_status (hl : c.statusBase ≤ n) (hu : n < c.statusBase + 192) :
    regionOf (some c) n = .statusBlock ((n - c.statusBase) / 4) := by
  obtain ⟨-, hbase, -⟩ := regionOk_apart hr
  rw [regionOf, if_neg (by omega)]
  exact if_pos (inBlock_iff.2 ⟨hl, hu⟩)

theorem regionOf_log (hl : c.logBase ≤ n) (hu : n < c.logBase + 4 * c.logSize) :
    regionOf (some c) n = .log := by
  obtain ⟨-, -, hbase, hstatus, hwindow⟩ := regionOk_apart hr
  rw [regionOf, if_neg (by omega)]
  rw [if_neg (by rw [inBlock_iff]; omega), if_neg (by rw [inBlock_iff]; omega),
    if_pos (inBlock_iff.2 ⟨hl, hu⟩)]

end

/-- Outside the four blocks memory is plain. -/
theorem regionOf_plain {c : Setup} {n : Nat} (hsetup : 256 ≤ n)
    (hstatus : n < c.statusBase ∨ c.statusBase + 192 ≤ n)
    (hwindow : n < c.windowBase ∨ c.windowBase + 128 ≤ n)
    (hlog : n < c.logBase ∨ c.logBase + 4 * c.logSize ≤ n) : regionOf (some c) n = .plain := by
  rw [regionOf, if_neg (by omega)]
  rw [if_neg (by rw [inBlock_iff]; omega), if_neg (by rw [inBlock_iff]; omega),
    if_neg (by rw [inBlock_iff]; omega)]

/-! ### When the setup block is writable (R150) -/

theorem anyAboard_iff {s : State} : s.anyAboard = false ↔ ∀ e ∈ s.accounts, e = Entry.free := by
  have haboard (e : Entry) : e.aboard = false ↔ e = .free := by
    cases e <;> simp [Entry.aboard, Entry.consignment]
  simp [State.anyAboard, haboard]

theorem writable_iff {s : State} : s.writable = true ↔ s.setup.load = none ∧
    (s.supply.part = .opened ∨ s.supply.part = .running ∧ ∀ e ∈ s.accounts, e = Entry.free) := by
  simp [State.writable, anyAboard_iff]

/-! ### The treatment by region (R148 to R152) -/

/-- The fifth test of the judgement: a host write is treated by its width and the region that holds it. -/
def treatedByRegion (s : State) (a : HostAccess) (r : Region) : State :=
  if a.width = .four then s.judgeFullWrite a r else s.judgeNarrowWrite a r

/-- The treatment of a host write that passes: a word write, or a read-modify-write (R148, R149). -/
def passing (a : HostAccess) : HostJob := if a.width = .four then .write else .rmwRead

section
variable {s : State} {a : HostAccess}

theorem passing_word (h : a.width = .four) : passing a = .write := if_pos h

theorem passing_narrow (h : a.width ≠ .four) : passing a = .rmwRead := if_neg h

/-- A host write that passes the first four tests comes to the fifth. -/
theorem judge_write (hold : ¬s.mustHold a = true) (ha : a.aligned = true)
    (hb : ¬beyondCapacity s.setup.inForce a.addr.toNat = true) (hd : a.dir = .write) :
    s.judge a = treatedByRegion s a (regionOf s.setup.inForce a.addr.toNat) := by
  by_cases hw : a.width = .four
  · rw [treatedByRegion, if_pos hw, State.judge, if_neg hold, if_neg (by simp [ha]), if_neg hb, hd, hw]
  · rw [treatedByRegion, if_neg hw, judge_narrow hold ha hb hd hw]

theorem treated_plain : treatedByRegion s a .plain = Safety.waitsAtMemory s a (passing a) := by
  unfold treatedByRegion passing
  split <;> rfl

theorem treated_writable (h : s.writable = true) :
    treatedByRegion s a .setupBlock = Safety.waitsAtMemory s a (passing a) := by
  rw [treatedByRegion, State.judgeFullWrite, State.judgeNarrowWrite, if_pos h, if_pos h, passing]
  split <;> rfl

theorem treated_locked (h : ¬s.writable = true) :
    treatedByRegion s a .setupBlock = Safety.waitsAtMemory s a (.suppressed .setupLocked) := by
  rw [treatedByRegion, State.judgeFullWrite, State.judgeNarrowWrite, if_neg h, if_neg h, ite_self]
  rfl

theorem treated_log :
    treatedByRegion s a .log = Safety.waitsAtMemory s a (.suppressed .logProtected) := ite_self _

theorem treated_window (h : a.width = .four) (w : Nat) :
    treatedByRegion s a (.window w) = Safety.waitsAtMemory s a (.windowWrite w) := if_pos h

/-- In the status block all but a full-word write of word 47 is suppressed (R151, R187). -/
theorem treated_status {w : Nat} (h : ¬(w = 47 ∧ a.width = .four)) :
    treatedByRegion s a (.statusBlock w) =
      Safety.waitsAtMemory s a (.suppressed .statusProtected) := by
  by_cases hw : a.width = .four
  · rw [treatedByRegion, if_pos hw]
    exact if_neg fun h47 => h ⟨h47, hw⟩
  · rw [treatedByRegion, if_neg hw]
    rfl

end

/-- Settles O37: the region that holds the address decides, with a setup in force and in OPEN without one. -/
theorem hostWriteByRegion : Obligations.HostWriteByRegion := by
  constructor
  · intro s a c hc hb hpart hforce hd ha hcap hr x treated writable plain
    obtain ⟨hword, hstatus, hlog, hstatusLog, hwindowLog⟩ := regionOk_apart hr
    obtain ⟨-, -, hstatusWindow, hwindow⟩ := regionOk_window hr
    have hretain : s.supply.part ≠ .retain := by rcases hpart with h | h <;> simp [h]
    have hwritable : s.writable = true ↔ writable := by
      rw [writable_iff]
      rcases hpart with h | h <;> simp [writable, h]
    have hbelow : ¬beyondCapacity s.setup.inForce a.addr.toNat = true := by
      rw [hforce, beyondCapacity_iff]
      rintro ⟨d, hd, hn⟩
      obtain rfl : c = d := Option.some.inj hd
      omega
    have judged {r : Region} {job : HostJob}
        (hfree : s.assembler.waiting = none ∨ ¬(c.windowBase ≤ x ∧ x < c.windowBase + 128))
        (hregion : regionOf (some c) x = r)
        (hjob : treatedByRegion s a r = Safety.waitsAtMemory s a job) : treated job := by
      have hhold : ¬s.mustHold a = true := by
        rw [mustHold_iff]
        rintro (⟨v, hv⟩ | ⟨-, hwaiting, d, hforce', hl, hu⟩)
        · rcases hpart with h | h <;> simp [h] at hv
        · obtain rfl : c = d := Option.some.inj (hforce.symm.trans hforce')
          exact hfree.elim hwaiting fun h => h ⟨hl, hu⟩
      refine judgedAs_judge hretain hc hb ?_
      rw [judge_write hhold (aligned_iff.2 ha) hbelow hd, hforce]
      exact hregion ▸ hjob
    refine ⟨fun hx hw h4 => ?_, fun hx hw h4 => ?_, fun hx hw => ?_, fun hl hu h47 => ?_,
      fun hwaiting hl hu h4 => ?_, fun hl hu => ?_, fun ⟨h0, h1, h2, h3⟩ h4 => ?_,
      fun ⟨h0, h1, h2, h3⟩ h4 => ?_⟩
    · exact passing_word h4 ▸
        judged (.inr (by omega)) (regionOf_setup _ hx) (treated_writable (hwritable.2 hw))
    · exact passing_narrow h4 ▸
        judged (.inr (by omega)) (regionOf_setup _ hx) (treated_writable (hwritable.2 hw))
    · exact judged (.inr (by omega)) (regionOf_setup _ hx) (treated_locked (mt hwritable.1 hw))
    · refine judged (.inr (by omega)) (regionOf_status hr hl hu) (treated_status ?_)
      rintro ⟨hn, h4⟩
      rw [h4] at ha
      change x % 4 = 0 at ha
      exact h47 ⟨by omega, h4⟩
    · exact judged (.inl hwaiting) (regionOf_window hr hl hu) (treated_window h4 _)
    · exact judged (.inr (by omega)) (regionOf_log hr hl hu) treated_log
    · exact passing_word h4 ▸ judged (.inr (by omega)) (regionOf_plain h0 h1 h2 h3) treated_plain
    · exact passing_narrow h4 ▸ judged (.inr (by omega)) (regionOf_plain h0 h1 h2 h3) treated_plain
  · intro s a hc hb hpart hforce hd ha treated
    have hwritable : s.writable = true ↔ s.setup.load = none := by simp [writable_iff, hpart]
    have hhold : ¬s.mustHold a = true := by simp [mustHold_iff, WaitsForReport, hpart, hforce]
    have judged {r : Region} {job : HostJob} (hregion : regionOf none a.addr.toNat = r)
        (hjob : treatedByRegion s a r = Safety.waitsAtMemory s a job) : treated job := by
      refine judgedAs_judge (by simp [hpart]) hc hb ?_
      rw [judge_write hhold (aligned_iff.2 ha) (by simp [hforce, beyondCapacity_iff]) hd, hforce]
      exact hregion ▸ hjob
    have passes (h : 256 ≤ a.addr.toNat ∨ s.setup.load = none) :
        treated (passing a) := by
      by_cases hx : a.addr.toNat < 256
      · have hload := h.resolve_left (Nat.not_le.2 hx)
        exact judged (regionOf_setup _ hx) (treated_writable (hwritable.2 hload))
      · exact judged (regionOf_unset (Nat.not_lt.1 hx)) treated_plain
    refine ⟨fun hx hload => ?_, fun h h4 => ?_, fun h h4 => ?_⟩
    · exact judged (regionOf_setup _ hx) (treated_locked (mt hwritable.1 hload))
    · exact passing_word h4 ▸ passes h
    · exact passing_narrow h4 ▸ passes h

end Sys2Proof
end

section
/-! The grants of the memory arbiter (R157 to R159), with the snapshot of a rewrite (R179). -/

namespace Sys2Proof

open Machine

section
variable {s : State}

theorem arbitrate_busy (h : s.arbiter.owner ≠ none) : s.arbitrate = s := by
  obtain ⟨o, ho⟩ := Option.ne_none_iff_exists'.1 h
  rw [State.arbitrate, ho]

/-- Rule 1: under a lockout the holder alone is granted. -/
theorem arbitrate_locked {h : Lockout} (ho : s.arbiter.owner = none)
    (hl : s.arbiter.lockout = some h) : s.arbitrate = s.grantHolder h := by
  rw [State.arbitrate, ho, hl]

/-- Rules 2 to 4: the upstream pass-through up to the fairness count, and then the internal requesters. -/
theorem arbitrate_open (ho : s.arbiter.owner = none) (hl : s.arbiter.lockout = none) :
    s.arbitrate = if s.arbiter.upstream = true ∧ s.arbiter.fairness < 8 then s.grantUpstream
      else s.grantInternal := by
  simp [State.arbitrate, ho, hl]

theorem atRmwRead_iff {p : Port} :
    p.atRmwRead = true ↔ ∃ a, p.current = some { acc := a, phase := .atMemory .rmwRead } := by
  unfold Port.atRmwRead
  split
  · next a h => exact iff_of_true rfl ⟨a, h⟩
  · next h => exact iff_of_false Bool.false_ne_true fun ⟨a, ha⟩ => h a ha

theorem internalWaiting_iff {b : Arbiter} :
    b.internalWaiting = true ↔ b.writer = true ∨ b.reader ≠ [] ∨ b.status = true := by
  simp [Arbiter.internalWaiting, or_assoc]

/-- Rule 3, by rank: the log writer first. -/
theorem grantInternal_writer (h : s.arbiter.writer = true) : s.grantInternal =
    { s with arbiter := { s.arbiter with
        owner := some .writer, lockout := some .writer, writer := false, fairness := 0 } } := if_pos h

/-- Then the internal reader, its clients in the order they asked (R159). -/
theorem grantInternal_reader {c : ReaderClient} {rest : List ReaderClient}
    (hw : s.arbiter.writer = false) (hr : s.arbiter.reader = c :: rest) : s.grantInternal =
      { s with arbiter := { s.arbiter with
          owner := some (.reader c), reader := rest, fairness := 0 } } := by
  rw [State.grantInternal, if_neg (by simp [hw]), hr]

/-- Then the status updater, whose first grant of a rewrite takes the snapshot (R179). -/
theorem grantInternal_status (hw : s.arbiter.writer = false) (hr : s.arbiter.reader = [])
    (hs : s.arbiter.status = true) : s.grantInternal =
      State.snapshot { s with arbiter := { s.arbiter with
        owner := some .status, status := false, fairness := 0 } } := by
  rw [State.grantInternal, if_neg (by simp [hw]), hr]
  exact if_pos hs

/-- Rule 4: with no requester waiting the port stays free. -/
theorem grantInternal_none (h : ¬s.arbiter.internalWaiting = true) : s.grantInternal = s := by
  rw [internalWaiting_iff, not_or, not_or, not_not] at h
  obtain ⟨hw, hr, hs⟩ := h
  rw [State.grantInternal, if_neg hw, hr]
  exact if_neg hs

theorem snapshot_requested (h : s.status.rewrite = some .requested) : s.snapshot =
    { s with status :=
        { gen := s.status.gen + 1, demand := false
          rewrite := some (.writing (s.picture (s.status.gen + 1)) 0) } } := by
  rw [State.snapshot, h]

theorem snapshot_other (h : s.status.rewrite ≠ some .requested) : s.snapshot = s := by
  unfold State.snapshot
  split
  · next hr => exact absurd hr h
  · rfl

end

/-- Settles O41: the rules of R157 in their order. -/
theorem arbiterGrants : Obligations.ArbiterGrants := by
  intro s b internal granted
  refine ⟨arbitrate_busy, fun ho hl hu => ?_, fun ho hl hw => ?_, fun ho hl hu => ?_,
    fun ho hl hw => ?_, fun ho hl hu hf => ?_, fun ho hl hu => ?_⟩
  · exact (arbitrate_locked ho hl).trans (if_pos hu)
  · exact (arbitrate_locked ho hl).trans (if_pos hw)
  · exact (arbitrate_locked ho hl).trans (if_neg (ne_true_of_eq_false hu))
  · exact (arbitrate_locked ho hl).trans (if_neg (ne_true_of_eq_false hw))
  · have hgrant : s.arbitrate = s.grantUpstream := (arbitrate_open ho hl).trans (if_pos ⟨hu, hf⟩)
    refine ⟨if b.internalWaiting = true then b.fairness + 1 else 0,
      fun h => if_pos (internalWaiting_iff.2 h), fun h => if_neg (mt internalWaiting_iff.1 h),
      fun h => ?_, fun h => ?_⟩
    · rw [hgrant, State.grantUpstream, if_pos (atRmwRead_iff.2 h)]
    · rw [hgrant, State.grantUpstream, if_neg (mt atRmwRead_iff.1 h), ← hl]
  · have hgrant : s.arbitrate = s.grantInternal := by
      refine (arbitrate_open ho hl).trans (if_neg fun ⟨hup, hlt⟩ => ?_)
      rcases hu with hu | hu
      · exact absurd hup (ne_true_of_eq_false hu)
      · exact absurd hlt (Nat.not_lt.2 hu)
    rw [hgrant]
    refine ⟨grantInternal_writer, fun c rest => grantInternal_reader, fun hw hr hs => ?_,
      fun h => grantInternal_none (mt internalWaiting_iff.1 h)⟩
    rw [grantInternal_status hw hr hs]
    exact ⟨fun h => snapshot_requested (s := granted _) h, fun h => snapshot_other (s := granted _) h⟩

end Sys2Proof
end

section
/-! The reads of a setup load (R167), and the held reset behind the end of STARTING (R142, R205). -/

namespace Sys2Proof

open Machine

section
variable {s : State} {copy : List Word}

/-- A read of the load that ends: a held reset may act only behind a load that STARTING waits for. -/
theorem exec_setupLoadRead (ho : s.arbiter.owner = some (.reader .setupLoader))
    (hl : s.setup.load = some copy) {r : LoadRead} {v : State}
    (hv : (Safety.freed s).loadWord copy (s.memRead r.answer (4 * copy.length)) = v) :
    exec (.setupLoadRead r) s = .next (if s.supply.part.isStarting = true then
      (v.settlePorts s).heldReset r.held else v.settlePorts s) := by
  subst hv
  change execSetupLoadRead r s = _
  rw [execSetupLoadRead, ho, hl]
  rfl

theorem loadWord_asks (w : Word) (h : copy.length < 63) : s.loadWord copy (some w) =
    { s with
      setup := { s.setup with load := some (copy ++ [w]) }
      arbiter := { s.arbiter with reader := s.arbiter.reader ++ [.setupLoader] } } := by
  have hshort : (copy ++ [w]).length < 64 := by
    rw [List.length_append, List.length_singleton]
    omega
  exact if_pos hshort

theorem loadWord_decides (w : Word) (h : copy.length = 63) : s.loadWord copy (some w) =
    s.decideLoad (s.validate { words := copy ++ [w] }) { words := copy ++ [w] } := by
  have hfull : ¬(copy ++ [w]).length < 64 := by simp [h]
  exact if_neg hfull

end

/-! ### What a decision does to the supply monitor -/

section
variable (s : State) (c : Setup)

theorem rejectLoad_supply (r : SetupReject) : (s.rejectLoad r).supply =
    if s.supply.part.isStarting = true then { s.supply with part := .opened } else s.supply := by
  unfold State.rejectLoad
  dsimp only
  split <;> simp [State.enter]

theorem acceptCold_supply : (s.acceptCold c).supply = { s.supply with part := .scanning } := by
  simp [State.acceptCold, State.putInForce]

theorem acceptRunning_supply : (s.acceptRunning c).supply = s.supply := by
  have hput : (s.putInForce c).supply = s.supply := rfl
  unfold State.acceptRunning State.relocate
  dsimp only
  split <;> simp [hput]

/-- A decision leaves the level of the reset input. -/
theorem decideLoad_resetPin (reason : Option SetupReject) :
    (s.decideLoad reason c).supply.resetPin = s.supply.resetPin := by
  cases reason with
  | some r =>
    rw [State.decideLoad, rejectLoad_supply]
    split <;> rfl
  | none =>
    rw [State.decideLoad]
    split
    · rw [acceptRunning_supply]
    · rw [acceptCold_supply]

/-- The decision on a load that STARTING waits for ends it, in OPEN or in SCANNING (R174, R175). -/
theorem decideLoad_endsStarting {s : State} (h : s.supply.part.isStarting = true)
    (reason : Option SetupReject) : (s.decideLoad reason c).supply.part.takesReset = true := by
  rw [takesReset_iff]
  cases reason with
  | some r =>
    rw [State.decideLoad, rejectLoad_supply, if_pos h]
    exact .inl rfl
  | none =>
    have hrunning : s.supply.part ≠ .running := fun hp => by simp [hp, PartState.isStarting] at h
    rw [State.decideLoad, if_neg hrunning, acceptCold_supply]
    exact .inr (.inl rfl)

end

/-- Settles O48: a read that is not the last, and a decision with no held reset, or with one behind the end of
STARTING. -/
theorem setupLoadReads : Obligations.SetupLoadReads := by
  intro s copy m held ho hl u becomes decides
  have decided {reason : Option SetupReject} {c : Setup}
      (hd : u.loadWord copy (s.memRead m (4 * copy.length)) = u.decideLoad reason c) :
      decides (u.decideLoad reason c) := by
    have hexec := exec_setupLoadRead ho hl (r := { answer := m, held := held }) hd
    have hpin : ((u.decideLoad reason c).settlePorts s).supply.resetPin = s.supply.resetPin := by
      simp only [State.settlePorts_frame, decideLoad_resetPin]
      rfl
    refine ⟨fun h => hexec.trans (congrArg Host.Outcome.next ?_),
      fun v hp hv => hexec.trans (congrArg Host.Outcome.next ?_)⟩
    · rcases h with hlow | hnot
      · rw [State.heldReset_low (hpin.trans hlow), ite_self]
      · exact if_neg fun hs => (isStarting_iff.1 hs).elim hnot
    · have hs : u.supply.part.isStarting = true := isStarting_iff.2 ⟨v, hv⟩
      have htakes : ((u.decideLoad reason c).settlePorts s).supply.part.takesReset = true := by
        simp only [State.settlePorts_frame, decideLoad_endsStarting c hs]
      rw [State.heldReset_acts (hpin.trans hp) htakes, actReset_eq]
      exact if_pos hs
  refine ⟨fun w hw hlen => ?_, fun w hw hlen => ?_, fun hm => ?_⟩
  · have hasks := (congrArg (u.loadWord copy) hw).trans (loadWord_asks w hlen)
    refine (exec_setupLoadRead ho hl (r := { answer := m, held := held }) hasks).trans
      (congrArg Host.Outcome.next ?_)
    split
    · next hs =>
      refine State.heldReset_waits ?_ held
      obtain ⟨v, hv⟩ := isStarting_iff.1 hs
      simp [u, Safety.freed, hv, PartState.takesReset]
    · rfl
  · exact decided (by rw [hw, loadWord_decides w hlen])
  · subst hm
    exact decided rfl

end Sys2Proof
end

section
/-! The end of the stable wait (R199, R200): the retained domain judged, the power return whole or ended by a
loss (R201, R203), and the held reset behind it. -/

namespace Sys2Proof

open Machine

/-! ### The retained domain is judged (R199, R200) -/

/-- The stable wait that completes judges the retained domain, and a held reset may act behind it. -/
theorem exec_stableWaitComplete {s : State} (hp : s.supply.part = .retain)
    (hw : s.supply.stableWait = true) (w : WaitEnd) : exec (.stableWaitComplete w) s =
      .next (((s.completeWait w).settlePorts s).heldReset w.held) := if_pos ⟨hp, hw⟩

theorem usable_iff {s : State} {intact : Bool} : s.usable intact = true ↔
    s.supply.domainHeld = true ∧ s.supply.retainedValid = true ∧ intact = true ∧
      s.supply.retainedCheck = s.retainedCheckNow := by
  simp [State.usable, and_assoc]

section
variable {s : State} {w : WaitEnd}

theorem completeWait_usable (h : s.usable w.intact = true) :
    s.completeWait w = (s.startFromWait w).returnOrLose w.loss := if_pos h

theorem completeWait_unusable (h : ¬s.usable w.intact = true) :
    s.completeWait w = (s.startFromWait w).coldStart s.unusableOutcome := if_neg h

end

/-- An assertion goes on waiting behind a cold start, which is STARTING (R205). -/
theorem heldReset_coldStart (s before : State) (outcome : ColdOutcome) (r : ResetAnswers) :
    ((s.coldStart outcome).settlePorts before).heldReset r =
      (s.coldStart outcome).settlePorts before := by
  refine State.heldReset_waits ?_ r
  simp [State.coldStart_eq, PartState.takesReset]

/-! ### The power return, operation by operation (R201) -/

/-- Steps 1 and 2: the restart values, and the return time of the last power-loss interval. -/
def returnNoted (s : State) : State := State.restartValues { s with
  supply := { s.supply with
    powerLoss := s.supply.powerLoss.map (fun p => { loss := p.loss, ret := some s.clock.seconds }) } }

theorem noteReturn_restartValues (s : State) : s.restartValues.noteReturn = returnNoted s := rfl

/-- Step 3: the POWER record of the interval behind what the queue holds. -/
def returnQueued (s : State) (p : PowerLoss) : State := (returnNoted s).produce
  { time := s.clock.seconds, slot := none, body := .power p.loss s.clock.seconds }

theorem queuePower_noted {s : State} {p : PowerLoss} (h : s.supply.powerLoss = some p) :
    s.restartValues.noteReturn.queuePower = returnQueued s p := by
  have hloss : (returnNoted s).supply.powerLoss =
      some { loss := p.loss, ret := some s.clock.seconds } := by
    change Option.map _ s.supply.powerLoss = _
    rw [h]
    rfl
  rw [noteReturn_restartValues, State.queuePower, hloss]
  rfl

/-- What a power return has done at a point of it (R203). -/
def returnReached (s : State) (p : PowerLoss) (point : ReturnPoint) : State :=
  match point with
  | .cleared => s.restartValues
  | .noted => returnNoted s
  | .deadlines n => takeFallen n (returnQueued s p)
  | .restartLatched => (returnQueued s p).takeAllFallen.latch .restart

theorem returnUpTo_eq {s : State} {p : PowerLoss} (h : s.supply.powerLoss = some p)
    (point : ReturnPoint) : s.returnUpTo point = returnReached s p point := by
  cases point with
  | cleared => rfl
  | noted => rfl
  | deadlines n => rw [State.returnUpTo, queuePower_noted h]; rfl
  | restartLatched => rw [State.returnUpTo, queuePower_noted h]; rfl

/-- Up to any point the memory port is idle, the restart values having cleared the arbiter. -/
theorem returnReached_arbiter (s : State) (p : PowerLoss) (point : ReturnPoint) :
    (returnReached s p point).arbiter = Arbiter.idle := by
  have hnoted : (returnNoted s).arbiter = Arbiter.idle := rfl
  cases point with
  | cleared => rfl
  | noted => exact hnoted
  | deadlines n => simpa [returnReached, returnQueued] using hnoted
  | restartLatched => simpa [returnReached, returnQueued] using hnoted

/-- Up to any point the supplies and the backup domain stand as they did. -/
theorem returnReached_supplies (s : State) (p : PowerLoss) (point : ReturnPoint) :
    (returnReached s p point).supply.backupPresent = s.supply.backupPresent ∧
      (returnReached s p point).supply.domainHeld = s.supply.domainHeld ∧
      (returnReached s p point).supply.resetPin = s.supply.resetPin := by
  have hnoted : (returnNoted s).supply.backupPresent = s.supply.backupPresent ∧
      (returnNoted s).supply.domainHeld = s.supply.domainHeld ∧
      (returnNoted s).supply.resetPin = s.supply.resetPin := ⟨rfl, rfl, rfl⟩
  cases point with
  | cleared => exact ⟨rfl, rfl, rfl⟩
  | noted => exact hnoted
  | deadlines n => simpa [returnReached, returnQueued] using hnoted
  | restartLatched => simpa [returnReached, returnQueued] using hnoted

/-! ### RUNNING again (R201 step 6) -/

theorem takeEntry_supply (s : State) : s.takeEntry.supply = s.supply := by
  unfold State.takeEntry
  repeat' split
  all_goals simp [State.waitForSpace, State.assemble]

/-- The part is RUNNING; the lines are as they were. -/
theorem runningAgain_supply (s : State) :
    s.runningAgain.supply = { s.supply with part := .running } := by
  simp [State.runningAgain, takeEntry_supply, State.enter]

/-- The end of a power return from its fallen deadlines on: RESTART latched, and RUNNING (R201 steps 5, 6). -/
theorem runningAgain_latched (t : State) : (t.latch .restart).runningAgain =
    let v := State.pump { t with
      alert := { t.alert with latched := t.alert.latched ||| Cause.restart.bit }
      supply := { t.supply with part := .running } }
    State.takeEntry { v with
      status := { v.status with demand := true, rewrite := some .requested }
      arbiter := { v.arbiter with status := true } } := State.runningAgain_eq _

/-! ### A power return that a main supply loss ends (R196, R203) -/

/-- A loss with no memory access in progress: RETAIN, the ports inactive, the transient state gone (R196). -/
def lossInReturn (s : State) (interval : PowerLoss) (backupRestored : Bool) : State :=
  let u := State.clearTransients { s with port := { s.port with current := none, behind := [] } }
  { u with supply := { u.supply with
      part := .retain, mainPresent := false, stableWait := false, resetTime := none
      backupPresent := s.supply.backupPresent || backupRestored, powerLoss := some interval } }

section
variable {s : State} (ho : s.arbiter.owner = none) {backupRestored : Bool} (interval : PowerLoss)
include ho

theorem abandonAccess_idle : s.abandonAccess = s := by
  rw [State.abandonAccess, ho]

/-- With the backup supply there the domain is kept (R197). -/
theorem loseMainWith_fed (hfed : (s.supply.backupPresent || backupRestored) = true) :
    s.loseMainWith (some interval) backupRestored = lossInReturn s interval backupRestored := by
  rw [State.loseMainWith, abandonAccess_idle ho]
  exact if_pos hfed

/-- Without it the domain is lost, and the line is at a free level (R197, log 17). -/
theorem loseMainWith_unfed (hfed : (s.supply.backupPresent || backupRestored) = false)
    (hd : s.supply.domainHeld = true) : s.loseMainWith (some interval) backupRestored =
      let lost := lossInReturn s interval backupRestored
      { lost with
        supply := { lost.supply with domainHeld := false }
        alert := { lost.alert with line := Config.freeBit lost.free }
        free := lost.free + 1 } := by
  rw [State.loseMainWith, abandonAccess_idle ho]
  exact (if_neg (ne_true_of_eq_false hfed)).trans (if_pos hd)

end

/-- The last power-loss interval that a loss at a point leaves: as it stood before step 2, a new one after
it (R203). -/
def intervalLeft (s : State) (p : PowerLoss) (point : ReturnPoint) : PowerLoss :=
  match point with
  | .cleared => p
  | _ => { loss := s.clock.seconds, ret := none }

theorem intervalAt_eq {s : State} {p : PowerLoss} (h : s.supply.powerLoss = some p)
    (point : ReturnPoint) : s.intervalAt point = some (intervalLeft s p point) := by
  cases point with
  | cleared => exact h
  | noted => rfl
  | deadlines n => rfl
  | restartLatched => rfl

theorem brokenReturn_eq {s : State} {p : PowerLoss} (h : s.supply.powerLoss = some p)
    (point : ReturnPoint) (backupRestored : Bool) :
    s.brokenReturn { point := point, backupRestored := backupRestored } =
      (returnReached s p point).loseMainWith (some (intervalLeft s p point)) backupRestored := by
  rw [State.brokenReturn, returnUpTo_eq h, intervalAt_eq h]

/-! ### The end of the stable wait -/

section
variable {s : State} {w : WaitEnd} {p : PowerLoss} (hpart : s.supply.part = .retain)
  (hwait : s.supply.stableWait = true) (hloss : s.supply.powerLoss = some p)
include hpart hwait

/-- An unusable domain leads to the cold-start path. -/
theorem exec_wait_unusable (h : ¬s.usable w.intact = true) : exec (.stableWaitComplete w) s =
    .next (((s.startFromWait w).coldStart s.unusableOutcome).settlePorts s) := by
  rw [exec_stableWaitComplete hpart hwait, completeWait_unusable h, heldReset_coldStart]

include hloss

/-- A usable domain returns to RUNNING by the six steps, and a held reset may act behind them. -/
theorem exec_wait_returns (h : s.usable w.intact = true) (hl : w.loss = none) :
    exec (.stableWaitComplete w) s = .next (State.heldReset (State.settlePorts
      (returnReached (s.startFromWait w) p .restartLatched).runningAgain s) w.held) := by
  rw [exec_stableWaitComplete hpart hwait, completeWait_usable h, hl, State.returnOrLose,
    State.powerReturn, returnUpTo_eq (s := s.startFromWait w) hloss]

/-- A return that a loss ends leaves RETAIN, where no reset is taken. -/
theorem exec_wait_broken (h : s.usable w.intact = true) {point : ReturnPoint} {backupRestored : Bool}
    (hl : w.loss = some { point := point, backupRestored := backupRestored }) {v : State}
    (hv : (returnReached (s.startFromWait w) p point).loseMainWith
      (some (intervalLeft s p point)) backupRestored = v) (hr : v.supply.part = .retain) :
    exec (.stableWaitComplete w) s = .next (State.settlePorts v s) := by
  have hbroken : (s.startFromWait w).brokenReturn
      { point := point, backupRestored := backupRestored } = v :=
    (brokenReturn_eq (s := s.startFromWait w) hloss point backupRestored).trans hv
  rw [exec_stableWaitComplete hpart hwait, completeWait_usable h, hl, State.returnOrLose, hbroken]
  refine congrArg Host.Outcome.next (State.heldReset_waits ?_ w.held)
  simp [hr, PartState.takesReset]

end

/-- The reset input at the end of a power return: as it was, or asserted meanwhile (R203). -/
theorem returned_supply (s before : State) (w : WaitEnd) (p : PowerLoss) :
    let t := State.settlePorts
      (returnReached (s.startFromWait w) p .restartLatched).runningAgain before
    t.supply.part = .running ∧ t.supply.resetPin = (s.supply.resetPin || w.asserted) := by
  obtain ⟨-, -, hpin⟩ := returnReached_supplies (s.startFromWait w) p .restartLatched
  simp only [State.settlePorts_frame, runningAgain_supply, hpin, true_and]
  rfl

/-- Settles O56: the domain judged, and the return whole, with the reset input low or asserted, or ended by a
loss at a point of it. -/
theorem stableWaitJudged : Obligations.StableWaitJudged := by
  constructor
  · intro s intact asserted arriving loss held hpart hwait usable waited becomes noted returned
    have hreturned (p : PowerLoss) : State.settlePorts
        (returnReached waited p .restartLatched).runningAgain s = returned p := by
      have hqueued : returnQueued waited p = noted.produce
        { time := s.clock.seconds, slot := none, body := .power p.loss s.clock.seconds } := rfl
      simp only [returnReached, hqueued, runningAgain_latched, returned]
    have hexec {p : PowerLoss} (hu : usable) (hp : s.supply.powerLoss = some p) :
        becomes none ((returned p).heldReset held) := by
      rw [← hreturned]
      exact exec_wait_returns hpart hwait hp (usable_iff.2 hu) rfl
    have hsupply (p : PowerLoss) : (returned p).supply.part = .running ∧
        (returned p).supply.resetPin = (s.supply.resetPin || asserted) := by
      rw [← hreturned]
      exact returned_supply s s
        { intact := intact, arriving := arriving, asserted := asserted, loss := none, held := held } p
    refine ⟨fun p hu hp hpin hassert => ?_, fun p hu hp hpin => ?_, fun hu => ?_⟩
    · have hlow : (returned p).supply.resetPin = false := by simp [hsupply, hpin, hassert]
      exact State.heldReset_low hlow held ▸ hexec hu hp
    · have hhigh : (returned p).supply.resetPin = true := by simp [hsupply, hpin]
      have hacts := hexec hu hp
      rwa [State.heldReset_acts hhigh (takesReset_iff.2 (.inr (.inr (hsupply p).1))),
        actReset_eq] at hacts
    · exact exec_wait_unusable hpart hwait (mt usable_iff.1 hu)
  · intro s point backup asserted arriving held p hpart hwait hd hvalid hcheck hp waited noted queued
      reached interval fed u lost loses
    have hu : s.usable true = true := usable_iff.2 ⟨hd, hvalid, rfl, hcheck⟩
    have hnoted : returnNoted waited = noted := by
      simp only [returnNoted, waited, hp, noted, Option.map_some]
    have hqueued : returnQueued waited p = queued := by
      simp only [returnQueued, hnoted, queued]
      rfl
    have hreached : returnReached waited p point = reached := by
      cases point with
      | cleared => rfl
      | noted => exact hnoted
      | deadlines n => exact congrArg (takeFallen n) hqueued
      | restartLatched => exact congrArg (fun t => t.takeAllFallen.latch .restart) hqueued
    have hinterval : intervalLeft waited p point = interval := by cases point <;> rfl
    obtain ⟨hbackup, hdomain, -⟩ := returnReached_supplies waited p point
    rw [hreached] at hbackup hdomain
    have hlost : lossInReturn reached interval backup = lost := by
      simp only [lossInReturn, hbackup]
      rfl
    have howner : reached.arbiter.owner = none := by
      rw [← hreached, returnReached_arbiter]
      rfl
    have loses_of {v : State} (hv : reached.loseMainWith (some interval) backup = v)
        (hr : v.supply.part = .retain) : loses v := by
      rw [← hreached, ← hinterval] at hv
      exact exec_wait_broken hpart hwait hp hu rfl hv hr
    refine ⟨fun hfed => loses_of ?_ rfl, fun hfed => ⟨Config.freeBit lost.free, loses_of ?_ rfl⟩⟩
    · rw [loseMainWith_fed howner interval (by rw [hbackup]; exact hfed), hlost]
    · rw [loseMainWith_unfed howner interval (by rw [hbackup]; exact hfed) (hdomain.trans hd), hlost]

end Sys2Proof
end

section
/-! The tests of a setup block in their order (R163 to R165, R169 to R171), and the bits R217 reserves. -/

namespace Sys2Proof

open Machine

/-! ### Bits outside the fields (R165, R217) -/

theorem and_not_eq_zero_iff {w m : Word} :
    w &&& ~~~m = 0 ↔ ∀ j < 32, m.getLsbD j = false → w.getLsbD j = false := by
  constructor
  · intro h j hj hm
    have hbit : (w &&& ~~~m).getLsbD j = false := by rw [h]; exact BitVec.getLsbD_zero
    rwa [BitVec.getLsbD_and, BitVec.getLsbD_not, hm, decide_eq_true hj, Bool.not_false, Bool.and_true,
      Bool.and_true] at hbit
  · intro h
    refine BitVec.eq_of_getLsbD_eq fun j hj => ?_
    cases hm : m.getLsbD j with
    | true => simp [hm]
    | false => simp [h j hj hm]

theorem bits_eq_zero_iff {w : Word} {hi lo : Nat} (hle : lo ≤ hi) :
    bits w hi lo = 0 ↔ ∀ j, lo ≤ j → j ≤ hi → w.getLsbD j = false := by
  have hzero : bits w hi lo = 0 ↔ w.extractLsb hi lo = 0#(hi - lo + 1) := by
    rw [bits, ← BitVec.toNat_inj, BitVec.toNat_zero]
  rw [hzero]
  constructor
  · intro h j hlo hhi
    have hbit := congrArg (BitVec.getLsbD · (j - lo)) h
    simpa [Nat.add_sub_cancel' hlo, Nat.sub_le_sub_right hhi lo] using hbit
  · intro h
    refine BitVec.eq_of_getLsbD_eq fun j hj => ?_
    simp [h (lo + j) (by omega) (by omega)]

/-- No bit of a setup word stands outside the fields that R217 gives it. -/
def WordClear (c : Setup) (i : Nat) : Prop := c.word i &&& ~~~fieldBits i = 0

/-- Where a mask leaves out the bits `hi` to `lo` alone, a word clear of what it leaves out is zero there. -/
theorem clear_iff_bits_zero (w : Word) {m : Word} {hi lo : Nat} (hle : lo ≤ hi) (hhi : hi < 32)
    (hm : ∀ j < 32, m.getLsbD j = false ↔ lo ≤ j ∧ j ≤ hi) :
    w &&& ~~~m = 0 ↔ bits w hi lo = 0 := by
  rw [and_not_eq_zero_iff, bits_eq_zero_iff hle]
  refine ⟨fun h j hlo hup => ?_, fun h j hj hmj => ?_⟩
  · have hj : j < 32 := Nat.lt_of_le_of_lt hup hhi
    exact h j hj ((hm j hj).2 ⟨hlo, hup⟩)
  · obtain ⟨hlo, hup⟩ := (hm j hj).1 hmj
    exact h j hlo hup

/-- The words that R217 gives whole to fields, those it reserves whole, and the rest. -/
theorem fieldBits_cases : ∀ i < 64, fieldBits i = BitVec.allOnes 32 ∨
    (i = 14 ∨ i = 15 ∨ (56 ≤ i ∧ i ≤ 62)) ∨ i ∈ [1, 2, 3, 4, 5, 6, 7, 10, 13] ∨
      ∃ k < 8, i = 20 + 5 * k := by decide

/-- The words whose test is more than nothing: those reserved whole, and those with a field in part. -/
theorem wordsClear_iff {c : Setup} : (∀ i < 64, WordClear c i) ↔
    (∀ i, i = 14 ∨ i = 15 ∨ (56 ≤ i ∧ i ≤ 62) → WordClear c i) ∧
      (∀ i ∈ [1, 2, 3, 4, 5, 6, 7, 10, 13], WordClear c i) ∧ ∀ k < 8, WordClear c (20 + 5 * k) := by
  constructor
  · intro h
    refine ⟨fun i hi => h i (by omega), fun i hi => h i ?_, fun k hk => h _ (by omega)⟩
    revert i
    decide
  · rintro ⟨hreserved, hpart, hclass⟩ i hi
    rcases fieldBits_cases i hi with hwhole | hres | hmem | ⟨k, hk, rfl⟩
    · simp [WordClear, hwhole]
    · exact hreserved i hres
    · exact hpart i hmem
    · exact hclass k hk

theorem wordClear_reserved (c : Setup) {i : Nat} (h : i = 14 ∨ i = 15 ∨ (56 ≤ i ∧ i ≤ 62)) :
    WordClear c i ↔ c.word i = 0 := by
  have hnone : fieldBits i = 0 := by
    have hall : ∀ i < 64, i = 14 ∨ i = 15 ∨ (56 ≤ i ∧ i ≤ 62) → fieldBits i = 0 := by decide
    exact hall i (by omega) h
  rw [WordClear, hnone]
  exact iff_of_eq (congrArg (· = 0) BitVec.and_allOnes)

/-- A word whose fields reach up to a bit is zero from there on. -/
theorem wordClear_above (c : Setup) (i lo : Nat) (hlo : lo < 32 := by decide)
    (hm : ∀ j < 32, (fieldBits i).getLsbD j = false ↔ lo ≤ j ∧ j ≤ 31 := by decide) :
    WordClear c i ↔ bits (c.word i) 31 lo = 0 :=
  clear_iff_bits_zero (c.word i) (Nat.le_of_lt_succ hlo) (by decide) hm

theorem wordClear_class (c : Setup) {k : Nat} (h : k < 8) :
    WordClear c (20 + 5 * k) ↔ bits (c.word (20 + 5 * k)) 30 17 = 0 := by
  have hmask : ∀ k < 8, fieldBits (20 + 5 * k) = 0x8001FFFF#32 := by decide
  rw [WordClear, hmask k h]
  exact clear_iff_bits_zero _ (by decide) (by decide) (by decide)

/-- Word 7 has reserved bits above and below its B-fitted marks. -/
theorem wordClear_compartments (c : Setup) :
    WordClear c 7 ↔ bits (c.word 7) 31 12 = 0 ∧ bits (c.word 7) 7 3 = 0 := by
  have hmask : fieldBits 7 = 0x00000FFF#32 &&& 0xFFFFFF07#32 := rfl
  rw [WordClear, hmask, BitVec.not_and, BitVec.and_or_distrib_left]
  exact BitVec.or_eq_zero_iff.trans (and_congr
    (clear_iff_bits_zero _ (by decide) (by decide) (by decide))
    (clear_iff_bits_zero _ (by decide) (by decide) (by decide)))

/-! ### The tests -/

section
variable {c : Setup}

theorem reservedOk_iff : c.reservedOk = true ↔ (∀ i < 64, WordClear c i) ∧
    ∀ k < 4, c.count ≤ k → c.bFitted k = false := by
  simp only [Setup.reservedOk, Bool.and_eq_true, List.all_eq_true, List.mem_range, beq_iff_eq, WordClear,
    Bool.or_eq_true, decide_eq_true_iff, Bool.not_eq_true', ← Nat.not_lt, Decidable.imp_iff_not_or,
    Decidable.not_not]

theorem rangesOk_iff {b : Band} : b.rangesOk = true ↔ -500 ≤ b.hardLow ∧ b.hardLow ≤ b.low ∧
    b.low ≤ b.high ∧ b.high ≤ b.hardHigh ∧ b.hardHigh ≤ 700 ∧ 60 ≤ b.timeLimit ∧
    b.timeLimit ≤ 86400 := by
  simp only [Band.rangesOk, within, Bool.and_eq_true, decide_eq_true_iff, and_assoc]

theorem bandOk_iff : c.bandOk = true ↔ (∃ k < 8, (c.band k).enabled = true) ∧
    ∀ k < 8, (c.band k).enabled = true → (c.band k).rangesOk = true := by
  simp only [Setup.bandOk, Bool.and_eq_true, List.all_eq_true, List.any_eq_true, List.mem_range,
    Bool.or_eq_true, Bool.not_eq_true', ← Bool.not_eq_true, Decidable.imp_iff_not_or]
  exact and_comm

theorem disjointSpans_iff {base1 size1 base2 size2 : Nat} :
    disjointSpans base1 size1 base2 size2 = true ↔ base1 + size1 ≤ base2 ∨ base2 + size2 ≤ base1 := by
  simp [disjointSpans]

theorem sameLog_iff {d : Setup} :
    sameLog c d = true ↔ c.logBase = d.logBase ∧ c.logSize = d.logSize := by
  simp [sameLog]

theorem usedWords_eq_zero_iff {s : State} :
    s.usedWords = 0 ↔ ∀ l, s.writer.log = some l → l.used = 0 := by
  unfold State.usedWords
  split <;> simp [*]

theorem logFreeFor_iff {s : State} : s.logFreeFor c = true ↔ ∀ d, s.setup.inForce = some d →
    sameLog c d = true ∨ s.usedWords = 0 ∧ s.queue.entries = [] := by
  unfold State.logFreeFor
  split <;> simp [*]

end

/-- Settles O47: each test spelt out, and the first that fails. -/
theorem setupValidated : Obligations.SetupValidated := by
  intro s c _ apart ends logBytes marker check capacity region timing band zero reserved logFree
  have hmarker : c.markerOk = true ↔ marker := beq_iff_eq
  have hcheck : c.checkOk = true ↔ check := beq_iff_eq
  have hcapacity : c.capacityOk = true ↔ capacity := by simp [Setup.capacityOk, capacity]
  have hregion : c.regionOk = true ↔ region := by
    simp only [Setup.regionOk, disjointSpans_iff, Bool.and_eq_true, beq_iff_eq, decide_eq_true_iff,
      and_assoc, region, apart, ends, logBytes]
    simp only [Setup.capacityBytes]
    omega
  have htiming : c.timingOk = true ↔ timing := by
    simp only [Setup.timingOk, within, Bool.and_eq_true, decide_eq_true_iff, and_assoc, Nat.zero_le,
      true_and, timing]
  have hband : c.bandOk = true ↔ band := by simp only [bandOk_iff, rangesOk_iff, band]
  have hreserved : c.reservedOk = true ↔ reserved := by
    rw [reservedOk_iff, wordsClear_iff, forall₂_congr fun _ => wordClear_reserved c,
      forall₂_congr fun _ => wordClear_class c]
    simp only [List.forall_mem_cons, List.not_mem_nil, false_imp_iff, implies_true, true_and, and_assoc,
      wordClear_above c 1 5, wordClear_above c 2 24, wordClear_above c 3 24, wordClear_above c 4 24,
      wordClear_above c 5 23, wordClear_above c 6 23, wordClear_compartments, wordClear_above c 10 16,
      wordClear_above c 13 13, Setup.bFitted, reserved, zero]
  have hlogFree : s.logFreeFor c = true ↔ logFree := by
    simp only [logFreeFor_iff, sameLog_iff, usedWords_eq_zero_iff, logFree]
  rw [← hmarker, ← hcheck, ← hcapacity, ← hregion, ← htiming, ← hband, ← hreserved, ← hlogFree]
  -- Each conjunct fixes the tests up to the one that decides: those before it pass, and it fails.
  unfold State.validate
  and_intros <;> intros <;>
    simp only [*, Bool.not_true, Bool.not_false, Bool.false_eq_true, if_true, if_false]

end Sys2Proof
end

section
/-! The decision on a setup load (R172 to R175). -/

namespace Sys2Proof

open Machine

/-- A rejection ends STARTING in OPEN, and leaves every other part state (R175). -/
theorem rejectLoad_supply_eq (s : State) (r : SetupReject) : (s.rejectLoad r).supply =
    { s.supply with
      part := match s.supply.part with
        | .starting _ => .opened
        | p => p } := by
  rw [rejectLoad_supply]
  generalize s.supply = monitor
  obtain ⟨part, -⟩ := monitor
  cases part <;> rfl

/-- A rejection changes the result, the part state that waits for the load, and the cause (R175). -/
theorem rejectLoad_eq (s : State) (r : SetupReject) : s.rejectLoad r =
    { s with
      setup := { s.setup with lastResult := .rejected r, load := none }
      supply := { s.supply with
        part := match s.supply.part with
          | .starting _ => .opened
          | p => p }
      alert := { s.alert with latched := s.alert.latched ||| Cause.setupRejected.bit } } := by
  rw [← rejectLoad_supply_eq s r, State.rejectLoad]
  dsimp only
  split <;> rfl

/-- The acceptance in RUNNING up to the collection that it refuses (R172 steps 1 to 4). -/
def replacedInRunning (s : State) (c : Setup) : State :=
  { if s.relocates c then (s.putInForce c).relocate else s.putInForce c with
    cadence := s.cadence.afterSetup }

/-- It changes the setup and its compartments, the log that it relocates with the chain, and the cadence
tracker (R172, R173). -/
theorem replacedInRunning_eq (s : State) (c : Setup) : replacedInRunning s c =
    { s.putInForce c with
      writer := if s.relocates c then (s.putInForce c).relocate.writer else s.writer
      cadence := s.cadence.afterSetup } := by
  unfold replacedInRunning
  split <;> rfl

/-- The steps behind it (R172 steps 5 to 8). -/
theorem acceptRunning_eq (s : State) (c : Setup) : s.acceptRunning c =
    (((replacedInRunning s c).refuseAssembly .notReady).judgeNearFull.produce
      (setupRecord s.now c (s.relocates c))).fullRewrite := by
  have hcadence : (if s.relocates c then (s.putInForce c).relocate else s.putInForce c).cadence =
      s.cadence := by split <;> rfl
  rw [State.acceptRunning, hcadence]
  rfl

theorem relocates_eq {s : State} {d : Setup} (h : s.setup.inForce = some d) (c : Setup) :
    s.relocates c = !(c.logBase == d.logBase && c.logSize == d.logSize) := by
  rw [State.relocates, h]
  rfl

/-- Settles O49: acceptance in RUNNING, acceptance elsewhere, and rejection. -/
theorem setupDecided : Obligations.SetupDecided := by
  intro s c cold rewritten
  refine ⟨fun d hp hd => ?_, fun hp => if_neg hp, rejectLoad_eq s⟩
  · intro relocated u ended
    have hrelocates : s.relocates c = relocated := relocates_eq hd c
    have hu : replacedInRunning s c = u := by
      rw [replacedInRunning_eq, hrelocates]
      rfl
    have hended : u.refuseAssembly .notReady = ended := refuseAssembly_eq u .notReady
    calc s.decideLoad none c = s.acceptRunning c := if_pos hp
      _ = _ := by rw [acceptRunning_eq, hu, hended, hrelocates]; rfl

end Sys2Proof
end

section
/-! A taken acknowledge (R187, R189): a full-word write to status word 47 at an idle port. -/

namespace Sys2Proof

open Machine

/-! ### The status block in a setup whose regions pass (R146, R170) -/

theorem regionOk_status_below {c : Setup} (h : c.regionOk = true) :
    c.statusBase + 192 ≤ c.capacity * 1048576 := by
  have hcap : c.capacityBytes = c.capacity * 1048576 := rfl
  simp only [Setup.regionOk, Bool.and_eq_true, decide_eq_true_iff] at h
  omega

section
variable {c : Setup} (hr : c.regionOk = true)
include hr

theorem status_below {n : Nat} (hu : n < c.statusBase + 192) :
    ¬beyondCapacity (some c) n = true := by
  have hbelow := regionOk_status_below hr
  intro h
  obtain ⟨d, hd, hn⟩ := beyondCapacity_iff.1 h
  obtain rfl : c = d := Option.some.inj hd
  omega

/-- No address of the status block wraps (R146, R170). -/
theorem statusAddr_toNat (hcap : c.capacity ≤ 16) {k : Nat} (hk : k < 192) :
    (BitVec.ofNat 24 (c.statusBase + k)).toNat = c.statusBase + k := by
  have hbelow := regionOk_status_below hr
  rw [BitVec.toNat_ofNat, Nat.mod_eq_of_lt]
  omega

end

/-! ### The access and its judgement (R145, R152) -/

section
variable {s : State} {c : Setup}

theorem exec_acknowledge (hc : s.setup.inForce = some c) (data : Word) :
    exec (.acknowledge data) s = .next (s.hostAccess (hostWrite c.statusBase 188 .four data)) := by
  change execAcknowledge data s = _
  rw [execAcknowledge, hc]

/-- CLEAR_COUNTERS is the acknowledge whose word has the flag set (R189). -/
theorem exec_clearCounters (s : State) (causes : BitVec 13) :
    exec (.clearCounters causes) s = exec (.acknowledge (1#1 ++ 0#18 ++ causes)) s := rfl

theorem mustHold_outsideWindow {a : HostAccess} (hc : s.setup.inForce = some c)
    (hp : s.supply.part = .running ∨ s.supply.part = .scanning)
    (ha : ¬(c.windowBase ≤ a.addr.toNat ∧ a.addr.toNat < c.windowBase + 128)) :
    ¬s.mustHold a = true := by
  rw [mustHold_iff]
  rintro (⟨v, hv⟩ | ⟨-, -, d, hd, hin⟩)
  · rcases hp with h | h <;> simp [h] at hv
  · obtain rfl : c = d := Option.some.inj (hc.symm.trans hd)
    exact ha hin

/-- A full-word write to status word 47 is taken by the alert unit, and answered OK at once. -/
theorem judge_word47 (hc : s.setup.inForce = some c)
    (hp : s.supply.part = .running ∨ s.supply.part = .scanning) (hr : c.regionOk = true)
    (hcap : c.capacity ≤ 16) (data : Word) :
    let a := hostWrite c.statusBase 188 .four data
    s.judge a = (s.acknowledge data).answer a .writeOk := by
  intro a
  obtain ⟨hword, -, -, -⟩ := regionOk_apart hr
  obtain ⟨-, -, hapart, -⟩ := regionOk_window hr
  have haddr : a.addr.toNat = c.statusBase + 188 := statusAddr_toNat hr hcap (by decide)
  have haligned : a.aligned = true := by
    rw [aligned_iff, haddr]
    change (c.statusBase + 188) % 4 = 0
    omega
  have hregion : regionOf (some c) a.addr.toNat = .statusBlock 47 := by
    rw [haddr, regionOf_status hr (by omega) (by omega), Nat.add_sub_cancel_left]
  rw [judge_write (mustHold_outsideWindow hc hp (by omega)) haligned
    (by rw [hc]; exact status_below hr (by omega)) rfl, hc, hregion]
  rfl

end

/-! ### What it does (R187) -/

/-- An acknowledge that names causes, with its clear-counters flag (R187). -/
def acknowledged (s : State) (named : BitVec 13) (clear : Bool) : State :=
  { s with
    alert := { s.alert with
      latched := s.alert.latched &&& ~~~named
      counters := if clear then Counters.zero else s.alert.counters
      echo := some { clear := clear, causes := named } }
    writer := { s.writer with
      state := if named.getLsbD 3 = true ∧ s.writer.state = .halted then .idle
        else s.writer.state }
    status := { s.status with demand := true } }

theorem Machine.State.acknowledge_eq (s : Machine.State) (data : Word) :
    s.acknowledge data = acknowledged s (data.extractLsb' 0 13) (data.getLsbD 31) := by
  simp [State.acknowledge, acknowledged, Cause.inSet, Cause.index]

/-- The word of CLEAR_COUNTERS names its causes in the lowest 13 bits and sets the flag (R189). -/
theorem clearCountersWord_fields (causes : BitVec 13) :
    (1#1 ++ 0#18 ++ causes : Word).extractLsb' 0 13 = causes ∧
      (1#1 ++ 0#18 ++ causes : Word).getLsbD 31 = true :=
  ⟨BitVec.extractLsb'_append_eq_right, BitVec.getLsbD_append⟩

/-- Settles O42: the judgement of a write to word 47, and CLEAR_COUNTERS by the fields of its word. -/
theorem acknowledgeTaken : Obligations.AcknowledgeTaken := by
  intro s c data causes hc hcurrent hbehind hp hr hcap after
  have hretain : s.supply.part ≠ .retain := by rcases hp with h | h <;> simp [h]
  have taken (data : Word) : exec (.acknowledge data) s = .next (State.settlePorts
      (after data (data.extractLsb' 0 13) (data.getLsbD 31)) s) := by
    rw [exec_acknowledge hc, hostAccess_judges hretain hcurrent hbehind, judge_word47 hc hp hr hcap,
      State.acknowledge_eq]
    rfl
  obtain ⟨hcauses, hflag⟩ := clearCountersWord_fields causes
  refine ⟨taken data, ?_⟩
  rw [exec_clearCounters, taken, hcauses, hflag]

end Sys2Proof
end

section
/-! The status updater (R178 to R181): a rewrite asked for, word by word, to its end or its abandonment, and
the log scan behind the first picture (R206). -/

namespace Sys2Proof

open Machine

theorem statusActive_iff {s : State} : s.statusActive = true ↔
    s.setup.inForce ≠ none ∧ (s.supply.part = .scanning ∨ s.supply.part = .running) := by
  simp [State.statusActive, Option.isSome_iff_ne_none]

section
variable {s : State}

/-- A demand that stands with no rewrite in progress begins one (R179). -/
theorem beginRewrite_due (ha : s.statusActive = true) (hd : s.status.demand = true)
    (hr : s.status.rewrite = none) : s.beginRewrite = s.askStatus := if_pos (by simp [ha, hd, hr])

theorem beginRewrite_not (h : ¬(s.statusActive = true ∧ s.status.demand = true ∧
    s.status.rewrite = none)) : s.beginRewrite = s :=
  if_neg (by simpa [and_assoc] using h)

theorem exec_statusWordWrite {picture : List Word} {n : Nat}
    (ho : s.arbiter.owner = some .status) (hr : s.status.rewrite = some (.writing picture n))
    (m : MemAnswer) : exec (.statusWordWrite m) s =
      .next (State.settlePorts ((Safety.freed s).statusWritten picture n m) s) := by
  change execStatusWordWrite m s = _
  rw [execStatusWordWrite, ho, hr]
  rfl

/-- Status word `n` of a rewrite stands in memory by memory's answer, in the order of R179. -/
def statusWordStored (s : State) (picture : List Word) (n : Nat) (m : MemAnswer) : State :=
  Safety.written s m (s.cfg.statusBase + 4 * statusOrder n) (picture.getD (statusOrder n) 0)

section
variable {picture : List Word} {n : Nat} {m : MemAnswer}

theorem statusWritten_eq (s : State) (picture : List Word) (n : Nat) (m : MemAnswer) :
    let u := statusWordStored s picture n m
    s.statusWritten picture n m = if m.isOk = true then
        if n < 47 then u.nextStatusWord picture (n + 1)
        else u.endRewrite.beginRewrite.startScanIfDue
      else (u.endRewrite.latch .writerFault).startScanIfDue := by
  rw [statusWordStored, ← State.memWrite_eq]
  rfl

theorem statusWritten_next (hm : m ≠ .fault) (hn : n < 47) : s.statusWritten picture n m =
    (statusWordStored s picture n m).nextStatusWord picture (n + 1) := by
  rw [statusWritten_eq, if_pos (isOk_iff.2 hm), if_pos hn]

theorem statusWritten_last (hm : m ≠ .fault) : s.statusWritten picture 47 m =
    (statusWordStored s picture 47 m).endRewrite.beginRewrite.startScanIfDue := by
  rw [statusWritten_eq, if_pos (isOk_iff.2 hm), if_neg (Nat.lt_irrefl 47)]

theorem statusWritten_fault : s.statusWritten picture n .fault =
    ((statusWordStored s picture n .fault).endRewrite.latch .writerFault).startScanIfDue := by
  rw [statusWritten_eq]
  rfl

end

end

/-- Settles O50: the request by its conditions, and a word written by its place and memory's answer. -/
theorem statusRewritten : Obligations.StatusRewritten := by
  refine ⟨fun s => ⟨fun hset hpart hd hr => ?_, fun h => ?_⟩, fun s picture n m ho hr _ => ?_⟩
  · change Host.Outcome.next (s.beginRewrite.settlePorts s) = _
    rw [beginRewrite_due (statusActive_iff.2 ⟨hset, hpart⟩) hd hr]
    rfl
  · have hnot : ¬(s.statusActive = true ∧ s.status.demand = true ∧ s.status.rewrite = none) := by
      rw [statusActive_iff]
      rintro ⟨⟨-, hpart⟩, hd, hr⟩
      rcases h with h | h | h
      · simp [h] at hpart
      · simp [h] at hd
      · exact h hr
    exact congrArg (fun t => Host.Outcome.next (State.settlePorts t s)) (beginRewrite_not hnot)
  · intro word u stands after ends
    have written {v : State} (h : (Safety.freed s).statusWritten picture n m = v) : after v :=
      h ▸ exec_statusWordWrite ho hr m
    have ended {v : State} (h : (Safety.freed s).statusWritten picture n m = v.startScanIfDue)
        (hpart : v.supply.part = s.supply.part) (hscan : v.scanner = s.scanner) : ends v := by
      refine ⟨fun hp hs => written ?_, fun hnot => written ?_⟩
      · exact h.trans (State.startScanIfDue_due (hpart.trans hp) (hscan.trans hs))
      · exact h.trans (State.startScanIfDue_not (by rwa [hpart, hscan]))
    have hbegins : u.endRewrite.statusActive = true ∧ u.endRewrite.status.demand = true ∧
        u.endRewrite.status.rewrite = none ↔ stands := by
      simp only [statusActive_iff, State.endRewrite, and_true]
      exact and_comm
    refine ⟨fun hm hlt => ?_, fun hm h47 hstands => ?_, fun hm h47 hstands => ?_, fun hm => ?_⟩
    · exact written (statusWritten_next hm hlt)
    · subst h47
      refine ended ((statusWritten_last hm).trans ?_) rfl rfl
      exact congrArg State.startScanIfDue (beginRewrite_not (mt hbegins.1 hstands))
    · subst h47
      obtain ⟨hactive, hdemand, hnone⟩ := hbegins.2 hstands
      refine ended ((statusWritten_last hm).trans ?_) rfl rfl
      exact congrArg State.startScanIfDue (beginRewrite_due hactive hdemand hnone)
    · subst hm
      exact ended statusWritten_fault rfl rfl

end Sys2Proof
end

section
/-! The picture of the status block (R178, R216), word by word, and the account view in it (R191). -/

namespace Sys2Proof

open Machine

/-! ### The picture by its parts -/

/-- The summary words of compartment `k`, absent at or beyond the count in force (R178). -/
def summaryAt (s : State) (k : Nat) : List Word :=
  match s.compartments[k]? with
  | some c => c.summary
  | none => absentSummary

section
variable (s : State) (gen : Word)

theorem summaryWords_eq : s.summaryWords =
    summaryAt s 0 ++ summaryAt s 1 ++ summaryAt s 2 ++ summaryAt s 3 := by
  change summaryAt s 0 ++ (summaryAt s 1 ++ (summaryAt s 2 ++ (summaryAt s 3 ++ []))) = _
  simp only [List.append_assoc, List.append_nil]

/-- The words before the account view: words 0 to 32. -/
def beforeView : List Word :=
  [gen, s.word1, s.word2, s.word3, s.word4, s.word5] ++ s.lossWords ++ s.logWords ++
    [s.word13, s.word14, s.word15, s.word16, s.word17] ++ s.rejectedWords ++
    (s.counterWords ++ [natWord s.clock.seconds, s.word24]) ++
    summaryAt s 0 ++ summaryAt s 1 ++ summaryAt s 2 ++ summaryAt s 3

theorem picture_eq : s.picture gen =
    beforeView s gen ++ viewWords s.alert.view ++ s.powerWords ++ [gen, s.word47] := by
  simp only [State.picture, State.shownFirst, State.shownSecond, summaryWords_eq, beforeView,
    List.append_assoc, List.cons_append, List.nil_append]

theorem summaryAt_length (k : Nat) : (summaryAt s k).length = 2 := by
  unfold summaryAt
  split <;> rfl

theorem beforeView_length : (beforeView s gen).length = 33 := by
  have hloss : s.lossWords.length = 3 := by
    unfold State.lossWords
    split <;> rfl
  have hlog : s.logWords.length = 4 := by
    unfold State.logWords
    split <;> rfl
  have hrejected : s.rejectedWords.length = 2 := by
    unfold State.rejectedWords
    split <;> rfl
  simp [beforeView, State.counterWords, hloss, hlog, hrejected, summaryAt_length]

theorem viewWords_length (v : Option View) : (viewWords v).length = 11 := by
  cases v <;> rfl

/-- Words 33 to 43 of the picture are the account view. -/
theorem picture_view : ((s.picture gen).drop 33).take 11 = viewWords s.alert.view := by
  rw [picture_eq, List.append_assoc, List.append_assoc, List.drop_left' (beforeView_length s gen),
    List.take_left' (viewWords_length _)]

end

/-! ### Counts of the account table (R6) -/

theorem countLifecycle_eq (accounts : List Entry) (code : Nat) (p : Entry → Bool)
    (h : ∀ e : Entry, (e.lifecycleCode == code) = p e) :
    countLifecycle accounts code = accounts.countP p :=
  congrArg (accounts.countP ·) (funext h)

theorem countVerdict_eq (accounts : List Entry) (code : Nat) (p : Verdict → Bool)
    (h : ∀ v : Verdict, (v.code == code) = p v) : countVerdict accounts code =
      accounts.countP (fun e => (e.consignment.map (fun c => p c.verdict)).getD false) := by
  refine congrArg (accounts.countP ·) (funext fun e => ?_)
  cases e.consignment with
  | none => rfl
  | some c => exact h c.verdict

/-- Word 3 counts the entries by lifecycle. -/
theorem word3_eq (s : State) :
    let lives (p : Entry → Bool) : BitVec 8 := BitVec.ofNat 8 (s.accounts.countP p)
    s.word3 = 0#8 ++ lives (fun e => e matches .staged ..) ++ lives (fun e => e matches .tracked ..)
      ++ lives (fun e => e matches .closing ..) := by
  rw [State.word3, countLifecycle_eq _ 1 (fun e => e matches .staged ..) (by rintro ⟨⟩ <;> rfl),
    countLifecycle_eq _ 2 (fun e => e matches .tracked ..) (by rintro ⟨⟩ <;> rfl),
    countLifecycle_eq _ 3 (fun e => e matches .closing ..) (by rintro ⟨⟩ <;> rfl)]

/-- Word 4 counts the entries aboard by verdict. -/
theorem word4_eq (s : State) :
    let verdicts (p : Verdict → Bool) : BitVec 8 := BitVec.ofNat 8
      (s.accounts.countP (fun e => (e.consignment.map (fun c => p c.verdict)).getD false))
    s.word4 = 0#8 ++ verdicts (fun v => v matches .clean) ++ verdicts (fun v => v matches .unproven _)
      ++ verdicts (fun v => v matches .broken _) := by
  rw [State.word4, countVerdict_eq _ 0 (fun v => v matches .clean) (by rintro ⟨⟩ <;> rfl),
    countVerdict_eq _ 1 (fun v => v matches .unproven _) (by rintro ⟨⟩ <;> rfl),
    countVerdict_eq _ 2 (fun v => v matches .broken _) (by rintro ⟨⟩ <;> rfl)]

/-! ### Single words (R216) -/

theorem word2_eq (s : State) : s.word2 = BitVec.ofBool s.stop.isSome ++ 0#15 ++ s.stop.getD 0 := by
  unfold State.word2
  cases s.stop <;> rfl

/-- The five standing conditions of word 14 as one field. -/
theorem word14_eq (s : State) : s.word14 = 0#3 ++
    (BitVec.ofBool (decide (s.writer.state = .waitingSpace)) ++ BitVec.ofBool s.writer.nearFull ++
      BitVec.ofBool s.unitOffStands ++ BitVec.ofBool s.probeDoubtStands ++
      BitVec.ofBool s.cadence.lostStanding) ++ 0#11 ++ s.alert.latched := by
  have hfull : s.logFullStands = decide (s.writer.state = .waitingSpace) := beq_eq_decide _ _
  rw [State.word14, hfull]
  simp only [BitVec.append_assoc, BitVec.cast_eq]

/-- Result and reason of word 24 share its lowest byte. -/
theorem word24_rejected {s : State} {r : SetupReject} (h : s.setup.lastResult = .rejected r) :
    s.word24 = 0#24 ++ (3#4 ++ BitVec.ofNat 4 r.code) := by
  rw [State.word24, h]
  exact BitVec.append_assoc

theorem rejectedWords_some {s : State} {r : Rejected} (h : s.rejected = some r) : s.rejectedWords =
    [r.addr ++ BitVec.ofNat 3 r.width.bytes ++ BitVec.ofBool (r.dir == .write) ++
      BitVec.ofNat 4 r.reason.code, natWord r.time] := by
  obtain ⟨addr, width, dir, reason, time⟩ := r
  rw [State.rejectedWords, h]
  cases dir <;> rfl

/-- Word 34 of an entry aboard: its last half is the peak excess of the current excursion. -/
theorem word34_eq {e : Entry} {c : Consignment} (h : e.consignment = some c) : e.word34 =
    BitVec.ofNat 4 e.lifecycleCode ++ BitVec.ofNat 2 c.compartment ++ BitVec.ofNat 3 c.band ++
      BitVec.ofNat 2 e.conditionCode ++
      (BitVec.ofNat 2 c.verdict.code ++ BitVec.ofNat 3 c.verdict.causeCode) ++
      BitVec.ofNat 16 ((e.excursion.map Excursion.peak).getD 0) := by
  rw [Entry.word34, h]
  cases e.excursion <;> simp only [BitVec.append_assoc, BitVec.cast_eq] <;> rfl

/-- Settles O51: the codes of single fields, the words formed of them, and the account view by the lifecycle of
its entry. -/
theorem statusPicture : Obligations.StatusPicture := by
  constructor
  · intro s gen byte half n absent part cadence lives verdicts writer loss log standing result receipt
      through reason rejected refusal setup machine mode temp summary power echo counters
    -- The codes of R216.
    have hpart : BitVec.ofNat 4 s.supply.part.code = part := by
      unfold part
      cases s.supply.part <;> rfl
    have hcadence : BitVec.ofNat 3 s.cadence.state.code = cadence := by
      unfold cadence
      cases s.cadence.state <;> rfl
    have hwriter : BitVec.ofNat 3 s.writer.state.code = writer := by
      unfold writer
      cases s.writer.state <;> rfl
    have hresult (r : ReportResult) : BitVec.ofNat 8 r.code = result r := by
      cases r with
      | taken => rfl
      | refused reason => cases reason <;> rfl
    have hreason (r : RejectReason) : BitVec.ofNat 4 r.code = reason r := by cases r <;> rfl
    have hrefusal (r : SetupReject) : BitVec.ofNat 4 r.code = refusal r := by cases r <;> rfl
    have hmachine (m : Allowance) : BitVec.ofNat 2 m.code = machine m := by cases m <;> rfl
    have hmode (m : ProbeMode) : BitVec.ofNat 2 m.code = mode m := by cases m <;> rfl
    -- The words, for each kind of content they may have.
    have hloss : s.lossWords = loss := by
      unfold State.lossWords loss
      cases s.queue.loss <;> rfl
    have hlog : s.logWords = log := by
      unfold State.logWords log
      cases s.writer.log <;> rfl
    have hreceipt : s.word16 = receipt := by
      unfold State.word16 receipt
      cases s.receipt.latest with
      | none => rfl
      | some l => exact congrArg (l.1 ++ 0#8 ++ ·) (hresult l.2)
    have hthrough : s.word17 = through := by
      unfold State.word17 through
      cases s.receipt.recordedThrough <;> rfl
    have hrejected : s.rejectedWords = rejected := by
      unfold rejected
      cases h : s.rejected with
      | none => rw [State.rejectedWords, h]; rfl
      | some r =>
        rw [rejectedWords_some h, hreason]
        rfl
    have hsetup : s.word24 = setup := by
      unfold setup
      cases h : s.setup.lastResult with
      | rejected r => rw [word24_rejected h, hrefusal]
      | none | inFlight | accepted | abandoned =>
        rw [State.word24, h]
        dsimp only
        rfl
    have hsummary (k : Nat) : summaryAt s k = summary k := by
      unfold summaryAt summary
      cases s.compartments[k]? with
      | none => rfl
      | some c =>
        dsimp only
        rw [Compartment.summary, effectivePair_eq, hmachine, hmachine, hmode]
        rfl
    have hpower : s.powerWords = power := by
      unfold State.powerWords power
      cases s.supply.powerLoss with
      | none => rfl
      | some p => exact congrArg ([natWord p.loss, ·]) (optWord_eq p.ret)
    have hecho : s.word47 = echo := by
      unfold State.word47 echo
      cases s.alert.echo <;> rfl
    refine ⟨viewWords s.alert.view, viewWords_length _, ?_⟩
    rw [picture_eq, beforeView, State.word1, hpart, hcadence, word2_eq, word3_eq, word4_eq, State.word5,
      hwriter, hloss, hlog, word14_eq, hreceipt, hthrough, hrejected, hsetup, hsummary, hsummary, hsummary,
      hsummary, hpower, hecho]
    rfl
  · intro s gen seq slot c t x d o m n absent temp verdict head named totals shows
    have hverdict : BitVec.ofNat 2 c.verdict.code ++ BitVec.ofNat 3 c.verdict.causeCode = verdict := by
      unfold verdict
      cases c.verdict with
      | clean => rfl
      | unproven cause => cases cause <;> rfl
      | broken cause => cases cause <;> rfl
    have shown {e : Entry} {ws : List Word}
        (h : viewWords (some { seq := seq, slot := slot, entry := e }) = ws) : shows e ws :=
      fun hview => by rw [picture_view, hview, h]
    have hnamed {e : Entry} (h : e.consignment = some c) : e.word34 =
        named (BitVec.ofNat 4 e.lifecycleCode) (BitVec.ofNat 2 e.conditionCode)
          ((e.excursion.map Excursion.peak).getD 0) := by
      rw [word34_eq h, hverdict]
    refine ⟨fun hview => ?_, shown ?_, fun hx => shown ?_, fun hx => shown ?_, shown ?_⟩
    · rw [picture_view, hview]
      rfl
    · rw [viewWords, hnamed rfl]
      simp only [Entry.totals, Option.bind_none]
      rfl
    · rw [viewWords, hnamed rfl]
      simp only [Entry.conditionCode, Entry.excursion, hx]
      rfl
    · rw [viewWords, hnamed rfl]
      simp only [Entry.conditionCode, Entry.excursion, hx]
      rfl
    · rw [viewWords, hnamed rfl]
      cases o <;> rfl

end Sys2Proof
end

section
/-! The log scan (R208, R209): its judgement of words and candidates, its reads, and its end. -/

namespace Sys2Proof

open Machine

/-! ### The judgement of words and candidates (R208) -/

theorem isCandidate_iff {w : Word} :
    isCandidate w = true ↔ bits w 31 24 = 0x5C ∧ bits w 19 15 ≤ 20 := by
  rw [isCandidate, Bool.and_eq_true, hasMarker, beq_iff_eq, decide_eq_true_iff]
  rfl

/-- The check over the words before the trailer agrees, and the tag of the first word with the sequence
(R126, R208). -/
theorem validRecord_iff {first : Word} {rest : List Word} :
    validRecord (first :: rest) = true ↔
      ((first :: rest).getLastD 0).extractLsb' 16 16 = spanCheck (first :: rest).dropLast ∧
        first.extractLsb' 0 15 = ((first :: rest).getD 1 0).extractLsb' 0 15 := by
  rw [validRecord, Bool.and_eq_true, beq_iff_eq, beq_iff_eq]
  rfl

section
variable {c : Scanner}

theorem take_candidate (h : c.words = []) {w : Word} (hw : isCandidate w = true) :
    c.take (some w) = { c with words := [w], spoiled := false } := by
  simp only [Scanner.take, h, hw, if_true]

theorem take_noCandidate (h : c.words = []) {w : Word} (hw : ¬isCandidate w = true) :
    c.take (some w) = c.skip := by
  simp only [Scanner.take, h, if_neg hw]

theorem take_fault (h : c.words = []) : c.take none = c.skip := by
  simp only [Scanner.take, h]

variable {first : Word} {rest : List Word} (h : c.words = first :: rest)
include h

/-- Within a candidate a FAULT reads as the word 0 and spoils it (R208, log 24). -/
theorem take_within (word : Option Word)
    (hl : (first :: rest ++ [word.getD 0]).length < bits first 19 15 + 4) : c.take word =
      { c with words := first :: rest ++ [word.getD 0], spoiled := c.spoiled || word.isNone } := by
  simp only [Scanner.take, h]
  exact if_pos hl

/-- The last word of a candidate has it judged (R208). -/
theorem take_judges (word : Option Word)
    (hl : bits first 19 15 + 4 ≤ (first :: rest ++ [word.getD 0]).length) : c.take word =
      c.judge (first :: rest ++ [word.getD 0]) (c.spoiled || word.isNone) := by
  simp only [Scanner.take, h]
  exact if_neg (Nat.not_lt.2 hl)

end

theorem judge_valid (c : Scanner) {ws : List Word} (h : validRecord ws = true) :
    c.judge ws false = c.note ws := if_pos h

theorem judge_spoiled (c : Scanner) (ws : List Word) : c.judge ws true = c.skip := rfl

theorem judge_invalid (c : Scanner) {ws : List Word} (h : ¬validRecord ws = true) (spoiled : Bool) :
    c.judge ws spoiled = c.skip := if_neg fun hv => h (Bool.and_eq_true_iff.1 hv).2

/-- Settles O52: a first word, and a word of a candidate, each read OK or FAULT. -/
theorem scanJudgesWords : Obligations.ScanJudgesWords := by
  intro c w first rest candidate skipped
  refine ⟨fun h => ⟨fun hw => ?_, fun hw => ?_, ?_⟩, fun h => ?_⟩
  · exact take_candidate h (isCandidate_iff.2 hw)
  · exact take_noCandidate h (mt isCandidate_iff.1 hw)
  · exact take_fault h
  · intro words length valid found
    have hvalid : validRecord words = true ↔ valid := validRecord_iff
    have hlength : (first :: rest ++ [(none : Option Word).getD 0]).length = words.length := by
      simp only [words, List.length_append, List.length_singleton]
    refine ⟨fun hl => ?_, fun hl hs hv => ?_, fun hl hv => ?_, fun hl => ⟨0, ?_⟩, fun hl => ?_⟩
    · rw [take_within h (some w) hl, Option.isNone_some, Bool.or_false]
      rfl
    · rw [take_judges h (some w) hl, hs]
      exact judge_valid c (hvalid.2 hv)
    · rw [take_judges h (some w) hl, Option.isNone_some, Bool.or_false]
      rcases hv with hs | hv
      · rw [hs]
        exact judge_spoiled c _
      · exact judge_invalid c (mt hvalid.1 hv) _
    · rw [take_within h none (hlength ▸ hl), Option.isNone_none, Bool.or_true]
      rfl
    · rw [take_judges h none (hlength ▸ hl), Option.isNone_none, Bool.or_true]
      exact judge_spoiled c _

/-! ### The reads of the scan and its end (R208, R209) -/

section
variable {s : State}

theorem exec_logScanRead {c : Scanner} (ho : s.arbiter.owner = some (.reader .logScanner))
    (hc : s.scanner = some c) (m : MemAnswer) : exec (.logScanRead m) s = .next (State.settlePorts
      ((Safety.freed s).scanWord c
        (s.memRead m (s.cfg.logBase + 4 * ((c.position + c.words.length) % s.cfg.logSize)))) s) := by
  change execLogScanRead m s = _
  rw [execLogScanRead, ho, hc]
  rfl

theorem scanWord_asks {c : Scanner} {word : Option Word}
    (h : (c.take word).position < s.cfg.logSize) :
    s.scanWord c word = { s with
      scanner := some (c.take word)
      arbiter := { s.arbiter with reader := s.arbiter.reader ++ [.logScanner] } } :=
  if_neg (Nat.not_le.2 h)

theorem scanWord_ends {c : Scanner} {word : Option Word}
    (h : s.cfg.logSize ≤ (c.take word).position) : s.scanWord c word = s.endScan (c.take word) :=
  if_pos h

/-- The held SETUP record joins the queue while there is room (R117, R174). -/
theorem queueHeld_room (hh : s.setup.heldRecord = true) (hq : s.queue.entries.length < 16) :
    s.queueHeld = { s with
      queue := Safety.queued s [setupRecord s.now s.cfg false]
      setup := { s.setup with heldRecord := false } } := by
  rw [State.queueHeld, if_pos hh]
  exact State.produce_room (s := s)
    (t := { s with setup := { s.setup with heldRecord := false } }) rfl hq _

end

/-- The scan is over with its pointers set and the chain begun anew, and records are queued (R209). -/
def scanned (s : State) (l : LogState) (records : List QEntry) : State :=
  { s with
    scanner := none
    writer := { s.writer with log := some l, chain := checkStart }
    queue := Safety.queued s records }

/-- The part is RUNNING behind the scan (R209). -/
def intoRunning (s : State) : State :=
  { s.judgeNearFull.latch .restart with
    supply := { s.judgeNearFull.supply with
      retainedValid := true, part := .running, coldOutcome := none } }

/-- The end of the scan over an empty queue, with the SETUP record held (R209). -/
theorem endScan_held {s : State} {outcome : ColdOutcome} (hq : s.queue.entries = [])
    (hh : s.setup.heldRecord = true) (ho : s.supply.coldOutcome = some outcome) (c : Scanner) :
    s.endScan c = intoRunning { scanned s (c.log s.cfg.logSize)
        [coldStartRecord s.now c outcome, setupRecord s.now s.cfg false] with
      setup := { s.setup with heldRecord := false } } := by
  let unqueued : State := { s with
    scanner := none
    writer := { s.writer with log := some (c.log s.cfg.logSize), chain := checkStart } }
  have hends : s.endScan c = intoRunning
      (unqueued.produce (coldStartRecord s.now c (s.supply.coldOutcome.getD .none))).queueHeld := rfl
  have hcold : unqueued.produce (coldStartRecord s.now c outcome) =
      scanned s (c.log s.cfg.logSize) [coldStartRecord s.now c outcome] :=
    State.produce_room (s := s) (t := unqueued) rfl (by simp [hq]) _
  have hroom : (Safety.queued s [coldStartRecord s.now c outcome]).entries.length < 16 := by
    simp [Safety.queued, hq]
  rw [hends, ho, Option.getD_some, hcold,
    queueHeld_room (s := scanned s _ [coldStartRecord s.now c outcome]) hh hroom]
  simp only [scanned, Safety.queued, List.append_assoc, List.cons_append, List.nil_append]
  rfl

/-- Settles O53: a read that asks for the next or ends the scan, and the end with and without records. -/
theorem logScanReadsAndEnds : Obligations.LogScanReadsAndEnds := by
  constructor
  · intro s c m ho hc u next
    rw [exec_logScanRead ho hc]
    refine ⟨fun hnext => ?_, fun hnext => ?_⟩
    · rw [scanWord_asks (s := u) hnext]
    · rw [scanWord_ends (s := u) hnext]
  · intro s c outcome hq hh ho becomes
    refine ⟨fun h l hhigh hlow => ?_, fun hhigh hlow => ?_⟩
    · intro head
      change s.endScan c = _
      rw [endScan_held hq hh ho, coldStartRecord, Scanner.log, hhigh, hlow, scanned, Safety.queued, hq]
      rfl
    · change s.endScan c = _
      rw [endScan_held hq hh ho, coldStartRecord, Scanner.log, hhigh, hlow, scanned, Safety.queued, hq]
      rfl

end Sys2Proof
end

section
/-! The account deadlines that fell, taken one at a time until none is left behind (R194, R202). -/

namespace Sys2Proof

open Machine

/-! ### Which account deadlines have fallen (R194) -/

/-- No account deadline of the table has been reached (R194). -/
def NoneFallen (accounts : List Entry) (now : Nat) : Prop :=
  ∀ e ∈ accounts, ∀ d, e.deadline = some d → now < d

section
variable {accounts : List Entry} {now : Nat}

theorem earliestDeadline_none (h : NoneFallen accounts now) : earliestDeadline accounts now = none := by
  unfold earliestDeadline
  rw [List.min?_eq_none_iff, List.filter_eq_nil_iff]
  intro d hd
  obtain ⟨e, he, hed⟩ := List.mem_filterMap.1 hd
  simpa using h e he d hed

/-- The earliest fallen deadline is held by an account, and no account holds an earlier one. -/
theorem earliestDeadline_some {d : Nat} (h : earliestDeadline accounts now = some d) :
    d ≤ now ∧ (∃ e ∈ accounts, e.deadline = some d) ∧
      ∀ f ∈ accounts, ∀ x, f.deadline = some x → d ≤ x := by
  unfold earliestDeadline at h
  obtain ⟨hmem, hmin⟩ := List.min?_eq_some_iff.1 h
  obtain ⟨hheld, hfell⟩ := List.mem_filter.1 hmem
  have hnow : d ≤ now := of_decide_eq_true hfell
  refine ⟨hnow, List.mem_filterMap.1 hheld, fun f hf x hx => ?_⟩
  by_cases hfallen : x ≤ now
  · exact hmin x (List.mem_filter.2 ⟨List.mem_filterMap.2 ⟨f, hf, hx⟩, decide_eq_true hfallen⟩)
  · omega

theorem earliestDeadline_eq_none_iff : earliestDeadline accounts now = none ↔ NoneFallen accounts now := by
  refine ⟨fun h e he d hd => ?_, earliestDeadline_none⟩
  rw [earliestDeadline, List.min?_eq_none_iff, List.filter_eq_nil_iff] at h
  simpa using h d (List.mem_filterMap.2 ⟨e, he, hd⟩)

/-- The slots due at a time are those whose entries hold a deadline at it. -/
theorem mem_slotsDueAt_iff {d slot : Nat} : slot ∈ slotsDueAt accounts d ↔
    ∃ e, accounts[slot]? = some e ∧ e.deadline = some d := by
  simp only [slotsDueAt, List.mem_filter, List.mem_range, beq_iff_eq, List.getD_eq_getElem?_getD]
  constructor
  · rintro ⟨hlt, hd⟩
    rw [List.getElem?_eq_getElem hlt] at hd ⊢
    exact ⟨_, rfl, hd⟩
  · rintro ⟨e, he, hd⟩
    exact ⟨(List.getElem?_eq_some_iff.1 he).1, by rw [he]; exact hd⟩

end

/-- One of the slots is chosen, whichever it is (R202, log 11). -/
theorem chooseSlot_mem (s : State) {slots : List Nat} (h : slots ≠ []) :
    ∃ slot ∈ slots, ∃ free, s.chooseSlot slots = some (slot, { s with free := free }) := by
  match slots, h with
  | [slot], _ => exact ⟨slot, List.mem_singleton_self slot, s.free, rfl⟩
  | slot :: next :: rest, _ =>
    have hlt : Config.freeChoice s.free % ((next :: rest).length + 1) < (slot :: next :: rest).length :=
      Nat.mod_lt _ (Nat.succ_pos _)
    exact ⟨_, List.getElem_mem hlt, s.free + 1, by
      rw [State.chooseSlot, List.getD_eq_getElem _ _ hlt]
      exact nofun⟩

/-! ### The fallen deadlines are taken one at a time (R202) -/

section
variable {s : State}

theorem takeFallen_none (h : NoneFallen s.accounts s.clock.seconds) (fuel : Nat) :
    takeFallen fuel s = s := by
  cases fuel with
  | zero => rfl
  | succ n => rw [takeFallen, State.now, earliestDeadline_none h]

/-- While a deadline has fallen, an earliest one is taken and then the rest (R202). -/
theorem takeFallen_earliest (h : ¬NoneFallen s.accounts s.clock.seconds) (fuel : Nat) :
    ∃ slot e d free, s.accounts[slot]? = some e ∧ e.deadline = some d ∧ d ≤ s.clock.seconds ∧
      (∀ f ∈ s.accounts, ∀ x, f.deadline = some x → d ≤ x) ∧
      takeFallen (fuel + 1) s = takeFallen fuel (State.takeDeadline { s with free := free } slot) := by
  obtain ⟨d, hd⟩ := Option.ne_none_iff_exists'.1 (mt earliestDeadline_eq_none_iff.1 h)
  obtain ⟨hnow, ⟨e, he, hed⟩, hleast⟩ := earliestDeadline_some hd
  obtain ⟨i, hi⟩ := List.mem_iff_getElem?.1 he
  obtain ⟨slot, hslot, free, hchoose⟩ := chooseSlot_mem s
    (List.ne_nil_of_mem (mem_slotsDueAt_iff.2 ⟨e, hi, hed⟩))
  obtain ⟨f, hf, hfd⟩ := mem_slotsDueAt_iff.1 hslot
  refine ⟨slot, f, d, free, hf, hfd, hnow, hleast, ?_⟩
  rw [takeFallen, State.now, hd]
  simp only [hchoose]

/-- What the taking of one deadline keeps, the taking of the fallen ones keeps. -/
theorem takeFallen_keeps {P : State → Prop} (hfree : ∀ u n, P u → P { u with free := n })
    (htake : ∀ u slot, P u → P (u.takeDeadline slot)) (fuel : Nat) (h : P s) :
    P (takeFallen fuel s) := by
  induction fuel generalizing s with
  | zero => exact h
  | succ n ih =>
    by_cases hnone : NoneFallen s.accounts s.clock.seconds
    · rw [takeFallen_none hnone]
      exact h
    · obtain ⟨slot, _, _, free, _, _, _, _, heq⟩ := takeFallen_earliest hnone n
      rw [heq]
      exact ih (htake _ slot (hfree s free h))

variable {slot : Nat}

theorem takeDeadline_staged {c : Consignment} {d : Nat} (h : s.account slot = .staged c d) :
    s.takeDeadline slot = s.openAtDeadline slot c d := by
  simp only [State.takeDeadline, h]

theorem takeDeadline_tracked {c : Consignment} {t : Tracking} {d : Nat}
    (h : s.account slot = .tracked c t) (hd : t.gapDeadline = some d) :
    s.takeDeadline slot = s.gapAtDeadline slot c t d := by
  simp only [State.takeDeadline, h, hd]

theorem takeDeadline_without (h : (s.account slot).deadline = none) : s.takeDeadline slot = s := by
  unfold State.takeDeadline
  split <;> simp_all [Entry.deadline]

end

/-! ### How many deadlines are still to be taken (R202) -/

/-- The deadlines of an entry still to be taken: behind a staging deadline its new gap deadline (R202). -/
def takings : Entry → Nat
  | .free => 0
  | .staged _ _ => 2
  | .tracked _ t => if t.gapDeadline.isSome then 1 else 0
  | .closing _ _ _ => 0

/-- The deadlines of a table still to be taken. -/
def takingsLeft (accounts : List Entry) : Nat := (accounts.map takings).sum

theorem takings_le (e : Entry) : takings e ≤ 2 := by
  cases e with
  | tracked c t => simp only [takings]; split <;> omega
  | _ => simp [takings]

theorem takings_pos {e : Entry} {d : Nat} (h : e.deadline = some d) : 0 < takings e := by
  cases e with
  | staged c x => exact Nat.two_pos
  | tracked c t => simp_all [takings, Entry.deadline]
  | _ => cases h

theorem takings_mapConsignment (f : Consignment → Consignment) (e : Entry) :
    takings (e.mapConsignment f) = takings e := by
  cases e <;> rfl

theorem takings_afterLoss (q : QEntry) (slot : Nat) (e : Entry) :
    takings (q.afterLoss slot e) = takings e := by
  unfold QEntry.afterLoss
  split
  · exact takings_mapConsignment _ e
  · rfl

theorem takingsLeft_le (accounts : List Entry) : takingsLeft accounts ≤ accounts.length * 2 := by
  have h := List.sum_le_card_nsmul (accounts.map takings) 2 (by
    intro n hn
    obtain ⟨e, _, rfl⟩ := List.mem_map.1 hn
    exact takings_le e)
  simpa [takingsLeft] using h

theorem noneFallen_of_takingsLeft {accounts : List Entry} (h : takingsLeft accounts = 0) (now : Nat) :
    NoneFallen accounts now := by
  intro e he d hd
  have hzero := List.sum_eq_zero_iff.1 h (takings e) (List.mem_map_of_mem he)
  exact absurd (takings_pos hd) (by omega)

theorem takingsLeft_set {accounts : List Entry} {slot : Nat} {e : Entry}
    (h : accounts[slot]? = some e) (f : Entry) :
    takingsLeft (accounts.set slot f) + takings e = takingsLeft accounts + takings f := by
  induction accounts generalizing slot with
  | nil => cases h
  | cons a rest ih =>
    cases slot with
    | zero =>
      obtain rfl : a = e := Option.some.inj h
      simp only [takingsLeft, List.set_cons_zero, List.map_cons, List.sum_cons]
      omega
    | succ k =>
      have hrest := ih (slot := k) h
      simp only [takingsLeft, List.set_cons_succ, List.map_cons, List.sum_cons] at hrest ⊢
      omega

/-- A record produced, queued or lost, leaves every entry its deadline (R117, R119). -/
theorem takingsLeft_produce (s : State) (q : QEntry) :
    takingsLeft (s.produce q).accounts = takingsLeft s.accounts := by
  unfold State.produce
  split
  · rfl
  · have hlost : (s.lose q).accounts = s.accounts.mapIdx fun slot e => q.afterLoss slot e := by
      rw [State.lose_eq]
      rfl
    have hsame : (s.accounts.mapIdx fun slot e => q.afterLoss slot e).map takings =
        s.accounts.map takings :=
      List.ext_getElem? fun i => by simp [takings_afterLoss, Function.comp_def]
    rw [hlost, takingsLeft, hsame, takingsLeft]

theorem takingsLeft_openAtDeadline (s : State) (slot : Nat) (c : Consignment) (d : Nat) :
    takingsLeft (s.openAtDeadline slot c d).accounts = takingsLeft (s.accounts.set slot
      (.tracked (c.unprove .staging) (openTracking d s.cfg.gapLimit))) := by
  simp only [State.openAtDeadline, State.judgeUnitOff_frame, takingsLeft_produce, State.latchIf_frame]
  rfl

theorem takingsLeft_gapAtDeadline (s : State) (slot : Nat) (c : Consignment) (t : Tracking) (d : Nat) :
    takingsLeft (s.gapAtDeadline slot c t d).accounts = takingsLeft (s.accounts.set slot
      (.tracked (c.unprove .gap) { t with gapDeadline := none })) := by
  unfold State.gapAtDeadline
  dsimp only
  split
  · rw [takingsLeft_produce]
    rfl
  · rfl

/-- A taken deadline is one fewer to be taken. -/
theorem takingsLeft_takeDeadline {s : State} {slot : Nat} {e : Entry} {d : Nat}
    (he : s.accounts[slot]? = some e) (hd : e.deadline = some d) :
    takingsLeft (s.takeDeadline slot).accounts + 1 = takingsLeft s.accounts := by
  have hslot := State.account_of_getElem? he
  cases e with
  | free => cases hd
  | staged c x =>
    have hset := takingsLeft_set he (.tracked (c.unprove .staging) (openTracking x s.cfg.gapLimit))
    rw [takeDeadline_staged hslot, takingsLeft_openAtDeadline]
    simp only [takings, openTracking, Option.isSome_some, if_true] at hset ⊢
    omega
  | tracked c t =>
    have hset := takingsLeft_set he (.tracked (c.unprove .gap) { t with gapDeadline := none })
    have hgap : t.gapDeadline = some d := hd
    rw [takeDeadline_tracked hslot hgap, takingsLeft_gapAtDeadline]
    simp only [takings, hgap, Option.isSome_some, Option.isSome_none, if_true] at hset
    simpa using hset
  | closing c o t => cases hd

/-- With as many takings as are left to be taken no fallen deadline is left behind (R202). -/
theorem takeFallen_leavesNone {s : State} {fuel : Nat} (h : takingsLeft s.accounts ≤ fuel) :
    NoneFallen (takeFallen fuel s).accounts s.clock.seconds := by
  induction fuel generalizing s with
  | zero => exact noneFallen_of_takingsLeft (Nat.le_zero.1 h) _
  | succ n ih =>
    by_cases hnone : NoneFallen s.accounts s.clock.seconds
    · rw [takeFallen_none hnone]
      exact hnone
    · obtain ⟨slot, e, d, free, he, hd, _, _, heq⟩ := takeFallen_earliest hnone n
      have hless := takingsLeft_takeDeadline (s := { s with free := free }) he hd
      have hrest := ih (s := State.takeDeadline { s with free := free } slot)
        (by change _ = takingsLeft s.accounts at hless; omega)
      rw [heq]
      simpa using hrest

theorem takeAllFallen_leavesNone {s : State} (h : s.accounts.length = 48) :
    NoneFallen s.takeAllFallen.accounts s.clock.seconds :=
  takeFallen_leavesNone (by have := takingsLeft_le s.accounts; omega)

end Sys2Proof
end

section
/-! The advance of the chill clock (R193), and what it takes of the second that ends (R194). -/

namespace Sys2Proof

open Machine

/-! ### What the taking of fallen deadlines keeps (R202) -/

/-- The allowance machines of the records of `b` stand as in records of `a`. -/
def MachinesFrom (a b : List Compartment) : Prop := ∀ c ∈ b, ∃ k ∈ a, ∀ n, c.machine n = k.machine n

theorem machinesFrom_refl (a : List Compartment) : MachinesFrom a a := fun c hc => ⟨c, hc, fun _ => rfl⟩

section
variable {s : State}

/-- A judgement of the unit-off standings leaves the allowance machines (R46). -/
theorem machinesFrom_judgeUnitOff {a : List Compartment} (h : MachinesFrom a s.compartments) :
    MachinesFrom a s.judgeUnitOff.compartments := by
  rw [State.judgeUnitOff_eq]
  intro c hc
  obtain ⟨i, hi, rfl⟩ := List.mem_mapIdx.1 hc
  obtain ⟨k, hk, hsame⟩ := h _ (List.getElem_mem hi)
  exact ⟨k, hk, fun n => (by cases n <;> rfl : _ = s.compartments[i].machine n).trans (hsame n)⟩

theorem machinesFrom_takeDeadline {a : List Compartment} (h : MachinesFrom a s.compartments)
    (slot : Nat) : MachinesFrom a (s.takeDeadline slot).compartments := by
  unfold State.takeDeadline
  split
  · exact machinesFrom_judgeUnitOff (by simpa using h)
  · split <;> simpa using h
  · exact h
  · exact h

/-- A record produced, queued or lost, misses no reading (R53, R118). -/
theorem missedReadings_produce (s : State) (q : QEntry) :
    (s.produce q).alert.counters.missedReadings = s.alert.counters.missedReadings := by
  unfold State.produce
  split
  · rfl
  · rw [State.lose_eq]

theorem missedReadings_takeDeadline (s : State) (slot : Nat) :
    (s.takeDeadline slot).alert.counters.missedReadings = s.alert.counters.missedReadings := by
  unfold State.takeDeadline
  split
  · simp [State.openAtDeadline, missedReadings_produce]
  · split
    · rfl
    · unfold State.gapAtDeadline
      dsimp only
      split <;> simp [missedReadings_produce]
  · rfl
  · rfl

theorem machinesFrom_takeAllFallen (s : State) :
    MachinesFrom s.compartments s.takeAllFallen.compartments :=
  takeFallen_keeps (P := fun u => MachinesFrom s.compartments u.compartments) (fun _ _ h => h)
    (fun _ slot h => machinesFrom_takeDeadline h slot) 96 (machinesFrom_refl _)

theorem missedReadings_takeAllFallen (s : State) :
    s.takeAllFallen.alert.counters.missedReadings = s.alert.counters.missedReadings :=
  takeFallen_keeps (P := fun u => u.alert.counters.missedReadings = s.alert.counters.missedReadings)
    (fun _ _ h => h) (fun u slot h => (missedReadings_takeDeadline u slot).trans h) 96 rfl

end

/-! ### The completion deadline (R101) -/

section
variable {s : State}

theorem expireAssembly_undue
    (h : ∀ c, s.assembler.collecting = some c → s.clock.seconds * 64 + s.clock.sub < c.deadline) :
    s.expireAssembly = s := by
  unfold State.expireAssembly
  split
  · rfl
  · next c hc =>
    have hlt : s.clock.ticks < c.deadline := h c hc
    exact if_neg (by simp only [Bool.and_eq_true, decide_eq_true_iff]; omega)

theorem expireAssembly_retain (h : s.supply.part = .retain) : s.expireAssembly = s := by
  unfold State.expireAssembly
  split
  · rfl
  · exact if_neg (by simp [h])

theorem expireAssembly_collecting (h : s.supply.part ≠ .retain) {c : Collecting}
    (hc : s.expireAssembly.assembler.collecting = some c) :
    s.clock.seconds * 64 + s.clock.sub < c.deadline := by
  by_contra hdue
  unfold State.expireAssembly at hc
  split at hc
  · next hidle => rw [hidle] at hc; cases hc
  · next x hx =>
    split at hc
    · rw [refuseAssembly_collecting hx] at hc
      cases hc
    · next hreached =>
      obtain rfl : x = c := Option.some.inj (hx.symm.trans hc)
      have hticks : x.deadline ≤ s.clock.ticks := Nat.not_lt.1 hdue
      exact hreached (by simp [h, hticks])

theorem missedReadings_expireAssembly (s : State) :
    s.expireAssembly.alert.counters.missedReadings = s.alert.counters.missedReadings := by
  unfold State.expireAssembly
  split
  · rfl
  · next c hc =>
    split
    · rw [refuseAssembly_collecting hc]
      rfl
    · rfl

end

/-! ### The allowance expiries (R43) -/

section
variable {reached : Nat → Bool}

theorem expireDue_grace (d : Nat) :
    (Allowance.grace d).expireDue reached = if reached d then .expired else .grace d := by
  cases h : reached d <;> simp [Allowance.expireDue, Allowance.expireGrace, Allowance.expireRecovery, h]

theorem expireDue_recovery (d : Nat) :
    (Allowance.recovery d).expireDue reached = if reached d then .idle else .recovery d := by
  cases h : reached d <;> simp [Allowance.expireDue, Allowance.expireGrace, Allowance.expireRecovery, h]

/-- No expiry that has been reached is left behind (R43). -/
theorem expireDue_not_reached {m : Allowance} {d : Nat}
    (h : m.expireDue reached = .grace d ∨ m.expireDue reached = .recovery d) : ¬reached d = true := by
  cases m with
  | idle => simp [Allowance.expireDue, Allowance.expireGrace, Allowance.expireRecovery] at h
  | expired => simp [Allowance.expireDue, Allowance.expireGrace, Allowance.expireRecovery] at h
  | grace e =>
    rw [expireDue_grace] at h
    split at h <;> simp_all
  | recovery e =>
    rw [expireDue_recovery] at h
    split at h <;> simp_all

theorem expireDue_undue {m : Allowance}
    (h : ∀ d, m = .grace d ∨ m = .recovery d → ¬reached d = true) : m.expireDue reached = m := by
  cases m with
  | idle => rfl
  | expired => rfl
  | grace d => exact (expireDue_grace d).trans (if_neg (h d (.inl rfl)))
  | recovery d => exact (expireDue_recovery d).trans (if_neg (h d (.inr rfl)))

theorem machine_expireDue (c : Compartment) (n : MachineName) :
    (c.expireDue reached).machine n = (c.machine n).expireDue reached := by
  cases n <;> rfl

end

/-! ### The end of a second (R194) -/

section
variable {s : State}

/-- Nothing of the second is due: no account deadline, no expected arrival, no allowance expiry. -/
structure SecondUndue (s : State) : Prop where
  accounts : NoneFallen s.accounts s.clock.seconds
  arrival : ∀ d, s.cadence.deadline = some d → s.clock.seconds < d
  machines : ∀ c ∈ s.compartments, ∀ n d, c.machine n = .grace d ∨ c.machine n = .recovery d →
    s.clock.seconds < d

theorem not_reached {d : Nat} (h : s.clock.seconds < d) : ¬s.reached d = true :=
  fun hr => absurd (State.reached_iff.1 hr).2 (Nat.not_le.2 h)

theorem expireMachines_undue (h : SecondUndue s) : s.expireMachines = s := by
  have hkept : ∀ c ∈ s.compartments, c.expireDue s.reached = c := fun c hc => by
    have hdoor : c.doorMachine.expireDue s.reached = c.doorMachine :=
      expireDue_undue fun d hd => not_reached (h.machines c hc .door d hd)
    have hdefrost : c.defrostMachine.expireDue s.reached = c.defrostMachine :=
      expireDue_undue fun d hd => not_reached (h.machines c hc .defrost d hd)
    rw [Compartment.expireDue, hdoor, hdefrost]
  rw [State.expireMachines, List.map_congr_left hkept, List.map_id']

theorem expireCadence_undue (h : SecondUndue s) : s.expireCadence = s := by
  unfold State.expireCadence
  split
  · rfl
  · next d hd => exact if_neg (not_reached (h.arrival d hd))

@[simp] theorem expireMachines_frame (s : State) :
    s.expireMachines.clock = s.clock ∧ s.expireMachines.supply = s.supply ∧
    s.expireMachines.mem = s.mem ∧ s.expireMachines.cadence = s.cadence ∧
    s.expireMachines.assembler = s.assembler ∧ s.expireMachines.setup = s.setup ∧
    s.expireMachines.alert = s.alert := by
  repeat' constructor

theorem expireSecond_undue (h : SecondUndue s) : s.expireSecond = s := by
  rw [State.expireSecond, expireMachines_undue h, expireCadence_undue h, State.takeAllFallen,
    takeFallen_none h.accounts, ite_self]

theorem expireSecond_retain (h : s.supply.part = .retain) : s.expireSecond = s := if_pos h

theorem expireSecond_acts (h : s.supply.part ≠ .retain) :
    s.expireSecond = s.expireMachines.expireCadence.takeAllFallen := if_neg h

theorem expireSecond_clock (s : State) : s.expireSecond.clock = s.clock := by
  unfold State.expireSecond
  split <;> simp

theorem expireSecond_mem (s : State) : s.expireSecond.mem = s.mem := by
  unfold State.expireSecond
  split <;> simp

theorem expireSecond_assembler (s : State) : s.expireSecond.assembler = s.assembler := by
  unfold State.expireSecond
  split <;> simp

/-- The expected-arrival deadline expires by the tracker, the setup, the clock and the part state alone
(R53, R194). -/
theorem expireCadence_congr {u : State} (hcadence : u.cadence = s.cadence) (hsetup : u.setup = s.setup)
    (hsupply : u.supply = s.supply) (hclock : u.clock = s.clock)
    (hmissed : u.alert.counters.missedReadings = s.alert.counters.missedReadings) :
    u.expireCadence.cadence = s.expireCadence.cadence ∧
      u.expireCadence.alert.counters.missedReadings = s.expireCadence.alert.counters.missedReadings := by
  have hcfg : u.cfg = s.cfg := by rw [State.cfg, State.cfg, hsetup]
  have hreached (d : Nat) : u.reached d = s.reached d := by
    rw [State.reached, State.reached, State.now, State.now, hsupply, hclock]
  unfold State.expireCadence
  rw [hcadence]
  split
  · exact ⟨hcadence, hmissed⟩
  · next d _ =>
    rw [hreached d, hcfg]
    split
    · simp [State.addMissed, hmissed]
    · exact ⟨hcadence, hmissed⟩

end

/-! ### One advance (R193, R194, R197) -/

section
variable {s : State}

theorem exec_chillClockAdvance (h : s.supply.domainHeld = true) :
    exec .chillClockAdvance s = .next (s.advanceClock.settle s) := if_pos h

/-- What an advance takes before the count goes on (R194, log 10). -/
def dueTaken (s : State) : State :=
  if s.clock.leavesSecond then s.expireAssembly.expireSecond else s.expireAssembly

theorem advanceClock_eq (s : State) : s.advanceClock = { dueTaken s with clock := s.clock.advance } := by
  have hclock : (dueTaken s).clock = s.clock := by
    unfold dueTaken
    split <;> simp [expireSecond_clock]
  rw [← hclock]
  rfl

theorem dueTaken_retain (h : s.supply.part = .retain) : dueTaken s = s := by
  rw [dueTaken, expireAssembly_retain h, expireSecond_retain h, ite_self]

theorem dueTaken_undue
    (ha : ∀ c, s.assembler.collecting = some c → s.clock.seconds * 64 + s.clock.sub < c.deadline)
    (h : SecondUndue s) : dueTaken s = s := by
  rw [dueTaken, expireAssembly_undue ha, expireSecond_undue h, ite_self]

theorem dueTaken_mem (s : State) : (dueTaken s).mem = s.mem := by
  unfold dueTaken
  split <;> simp [expireSecond_mem]

theorem dueTaken_assembler (s : State) : (dueTaken s).assembler = s.expireAssembly.assembler := by
  unfold dueTaken
  split
  · exact expireSecond_assembler _
  · rfl

/-- At sub-count 63 every block but in RETAIN takes what is due of its second (R194). -/
theorem dueTaken_leaves (hsub : s.clock.sub = 63) (hp : s.supply.part ≠ .retain) :
    dueTaken s = s.expireAssembly.expireMachines.expireCadence.takeAllFallen := by
  have hleaves : s.clock.leavesSecond = true := by rw [Clock.leavesSecond, hsub]; rfl
  rw [dueTaken, if_pos hleaves, expireSecond_acts (by simpa using hp)]

section
variable (hsub : s.clock.sub = 63) (hp : s.supply.part ≠ .retain)
include hsub hp

/-- The expected-arrival deadline is taken as its own command takes it (R53, R194). -/
theorem dueTaken_cadence : (dueTaken s).cadence = s.expireCadence.cadence ∧
    (dueTaken s).alert.counters.missedReadings = s.expireCadence.alert.counters.missedReadings := by
  obtain ⟨hcadence, hmissed⟩ := expireCadence_congr (u := s.expireAssembly.expireMachines) (s := s)
    (by simp) (by simp) (by simp) (by simp) (missedReadings_expireAssembly s)
  rw [dueTaken_leaves hsub hp, missedReadings_takeAllFallen]
  exact ⟨by simpa using hcadence, hmissed⟩

/-- No account deadline of the second is left behind (R194). -/
theorem dueTaken_accounts (hlen : s.accounts.length = 48) :
    NoneFallen (dueTaken s).accounts s.clock.seconds := by
  have htaken := takeAllFallen_leavesNone (s := s.expireAssembly.expireMachines.expireCadence)
    (by simpa using hlen)
  rw [dueTaken_leaves hsub hp]
  simpa using htaken

/-- No allowance expiry of the second is left behind (R43, R194). -/
theorem dueTaken_machines {c : Compartment} (hc : c ∈ (dueTaken s).compartments) {n : MachineName} {d : Nat}
    (hm : c.machine n = .grace d ∨ c.machine n = .recovery d) : s.clock.seconds < d := by
  rw [dueTaken_leaves hsub hp] at hc
  obtain ⟨k, hk, hsame⟩ := machinesFrom_takeAllFallen _ c hc
  have hexpired : k ∈ s.expireAssembly.compartments.map (·.expireDue s.expireAssembly.reached) := by
    simpa [State.expireMachines] using hk
  obtain ⟨c₀, _, rfl⟩ := List.mem_map.1 hexpired
  rw [hsame n, machine_expireDue] at hm
  by_contra hdue
  exact expireDue_not_reached hm (State.reached_iff.2 ⟨by simpa using hp, by simpa using hdue⟩)

end

/-- With nothing due before it the advance counts and does nothing else (R193). -/
theorem exec_chillClockAdvance_counts (h : s.supply.domainHeld = true) (hdue : dueTaken s = s) :
    exec .chillClockAdvance s = .next (State.settle { s with clock := s.clock.advance } s) := by
  rw [exec_chillClockAdvance h, advanceClock_eq, hdue]

theorem advance_wraps {c : Clock} (hs : c.seconds < 4294967295) (hsub : c.sub = 63) :
    c.advance = { seconds := c.seconds + 1, sub := 0 } :=
  (if_neg (Nat.not_le.2 hs)).trans (if_pos hsub)

theorem advance_counts {c : Clock} (hs : c.seconds < 4294967295) (hsub : c.sub ≠ 63) :
    c.advance = { seconds := c.seconds, sub := c.sub + 1 } :=
  (if_neg (Nat.not_le.2 hs)).trans (if_neg hsub)

theorem advance_stopped {c : Clock} (hs : 4294967295 ≤ c.seconds) : c.advance = c := if_pos hs

end

/-- Settles O60: the advance with nothing due, at the clock's stop, with the domain lost, in RETAIN, and
whatever is due. -/
theorem chillClockAdvances : Obligations.ChillClockAdvances := by
  intro s undue ticks
  have hquiet (hu : undue) : dueTaken s = s := by
    obtain ⟨hassembly, haccounts, harrival, hmachines⟩ := hu
    exact dueTaken_undue hassembly ⟨haccounts, harrival, hmachines⟩
  refine ⟨fun hheld hu hs => ⟨fun hsub => ?_, fun hsub => ?_⟩, fun hheld hu hs => ?_, fun hlost => ?_, ?_⟩
  · rw [← advance_wraps hs hsub]
    exact exec_chillClockAdvance_counts hheld (hquiet hu)
  · rw [← advance_counts hs (Nat.ne_of_lt hsub)]
    exact exec_chillClockAdvance_counts hheld (hquiet hu)
  · rw [← congrArg ticks (advance_stopped hs)]
    exact exec_chillClockAdvance_counts hheld (hquiet hu)
  · exact if_neg (by simp [hlost])
  · intro counted
    have hcounted : s.clock.advance = counted := rfl
    refine ⟨fun hheld hp => ?_, fun hheld => ⟨_, exec_chillClockAdvance hheld, ?_, ?_⟩⟩
    · rw [← hcounted]
      exact exec_chillClockAdvance_counts hheld (dueTaken_retain hp)
    · rw [advanceClock_eq]
      simpa using hcounted
    · rw [advanceClock_eq]
      simpa using dueTaken_mem s

/-- Settles O57: the taking of the fallen deadlines one at a time, and what an advance leaves behind. -/
theorem deadlinesNotSkipped : Obligations.DeadlinesNotSkipped := by
  refine ⟨⟨fun s e d hlen he hd => takeAllFallen_leavesNone hlen e he d hd, fun s => rfl, fun s n => ?_,
    fun s slot e d he hd hdue hp => ?_⟩, fun s t hinv hheld ht => ?_⟩
  · refine ⟨fun hnone => takeFallen_none hnone n, fun ⟨e, he, d, hd, hdue⟩ => ?_⟩
    exact takeFallen_earliest (fun hnone => absurd (hnone e he d hd) (Nat.not_lt.2 hdue)) n
  · have hslot := State.account_of_getElem? he
    have hreached : s.reached d = true := State.reached_iff.2 ⟨hp, hdue⟩
    constructor
    · rintro ⟨c, rfl⟩
      rw [takeDeadline_staged hslot, ← State.expireStaging_due hslot hreached]
      rfl
    · rintro ⟨c, x, rfl⟩
      rw [takeDeadline_tracked hslot hd, ← State.expireGap_due hslot hd hreached]
      rfl
  · rw [exec_chillClockAdvance hheld, advanceClock_eq] at ht
    obtain rfl := Host.Outcome.next.inj ht
    simp only [State.settle_frame]
    refine ⟨fun hp c hc => ?_, fun hp hsub => ⟨fun u hu => ?_, ?_, fun c hc n d hm => ?_⟩, fun hp => ?_⟩
    · rw [dueTaken_assembler] at hc
      exact expireAssembly_collecting hp hc
    · obtain rfl : s.expireCadence.settle s = u := Host.Outcome.next.inj hu
      simpa using dueTaken_cadence hsub hp
    · exact dueTaken_accounts hsub hp hinv.bounds.table
    · exact dueTaken_machines hsub hp hc hm
    · rw [dueTaken_retain hp]
      exact ⟨rfl, rfl, rfl, rfl, rfl⟩

end Sys2Proof
end

section
/-! What a restart and a main supply loss clear of the transient state (R32, R196, R201), and what the retained
check covers (R198). -/

namespace Sys2Proof

open Machine

/-! ### The transient state cleared (R32, R124, R137, R177) -/

section
variable (s : State)

theorem nearFullStands_eq : s.nearFullStands =
    match s.setup.inForce, s.writer.log with
    | some c, some l => decide (c.logSize - l.used < c.nearFull)
    | _, _ => false := by
  rw [State.nearFullStands]
  cases s.setup.inForce <;> cases s.writer.log <;> rfl

theorem clearTransients_eq : s.clearTransients =
    { s with
      compartments := s.compartments.map Compartment.loseTransient
      cadence := Cadence.fresh
      assembler := Assembler.empty
      receipt := Receipt.empty
      writer := { s.writer with nearFull := s.nearFullStands }
      setup := { s.setup with load := none, heldRecord := false }
      scanner := none
      alert := { s.alert with echo := none, view := none }
      status := { s.status with demand := false, rewrite := none }
      arbiter := Arbiter.idle
      rejected := none } := rfl

/-- A restart clears besides the unit-off standings, the record being written and the load in flight (R32,
R137, R177). -/
theorem restartValues_eq : s.restartValues =
    { s.clearTransients with
      compartments := s.compartments.map Compartment.restart
      writer := { s.clearTransients.writer with state := s.writer.state.abandon }
      setup := { s.clearTransients.setup with lastResult := s.setup.lastResult.abandon } } := by
  have hcompartments : s.clearTransients.compartments.map Compartment.restart =
      s.compartments.map Compartment.restart := by
    rw [clearTransients_eq, List.map_map]
    rfl
  rw [← hcompartments]
  rfl

end

theorem abandon_writer_eq (w : WriterState) : w.abandon =
    match w with
    | .writing _ _ _ => .idle
    | .verifying _ _ => .idle
    | w => w := by
  cases w <;> rfl

theorem abandon_result_eq (r : SetupResult) :
    r.abandon = if r = .inFlight then .abandoned else r := by
  cases r <;> rfl

/-! ### What the retained check covers (R198) -/

/-- The compartment record with retained fields as given, the transient ones in their restart values. -/
def Machine.RetainedCompartment.restored (c : RetainedCompartment) : Compartment :=
  { bFitted := c.bFitted, probeA := c.probeA, probeB := c.probeB, mode := c.mode,
    effective := c.effective, lastPresent := c.lastPresent, disagreeRun := 0, absenceRun := 0,
    trustRun := 0, doubt := c.doubt, door := .unknown, unit := .unknown, doorMachine := .idle,
    defrostMachine := .idle, unitOff := c.unitOff }

theorem restored_retained (c : Compartment) :
    c.retained.restored = c.loseTransient := rfl

/-- Records are retained alike exactly where they agree but for what a loss clears (R198). -/
theorem map_retained_eq_iff (a b : List Compartment) :
    a.map Compartment.retained = b.map Compartment.retained ↔
      a.map Compartment.loseTransient = b.map Compartment.loseTransient := by
  have hforth (l : List Compartment) : l.map Compartment.loseTransient =
      (l.map Compartment.retained).map RetainedCompartment.restored := by
    rw [List.map_map]; rfl
  have hback (l : List Compartment) : l.map Compartment.retained =
      (l.map Compartment.loseTransient).map Compartment.retained := by
    rw [List.map_map]; rfl
  refine ⟨fun h => ?_, fun h => ?_⟩
  · rw [hforth a, hforth b, h]
  · rw [hback a, hback b, h]

/-- Settles O54: the restart values, those of a supply loss, and the items of the retained check. -/
theorem restartValues : Obligations.RestartValues := by
  refine ⟨fun s => ?_, fun s => ?_, ?_⟩
  · rw [restartValues_eq, clearTransients_eq, nearFullStands_eq, abandon_writer_eq, abandon_result_eq]
    rfl
  · rw [clearTransients_eq, nearFullStands_eq]
    rfl
  · intro s t kept
    have hkept : s.compartments.map kept = t.compartments.map kept ↔
        s.compartments.map Compartment.retained = t.compartments.map Compartment.retained :=
      (map_retained_eq_iff _ _).symm
    rw [hkept, State.retained, State.retained, Retained.mk.injEq]
    constructor
    · rintro ⟨ha, hc, hstop, hq, hstate, hlog, hchain, hrest⟩
      exact ⟨ha, hc, hstop, hq, hlog, hchain, hstate, hrest⟩
    · rintro ⟨ha, hc, hstop, hq, hlog, hchain, hstate, hrest⟩
      exact ⟨ha, hc, hstop, hq, hstate, hlog, hchain, hrest⟩

end Sys2Proof
end

section
/-! The losses of the supplies and the return of the main supply (R143, R144, R196, R197, R200). -/

namespace Sys2Proof

open Machine

/-! ### The write in progress at a loss (R143, R144) -/

/-- A memory access has been abandoned: the word of a write in progress is left old or new, and nothing else
of the state moves but the counter of free values (R143). -/
def AccessAbandoned (s u : State) : Prop :=
  ∃ (m : Mem) (free : Nat), u = { s with mem := m, free := free } ∧
    (m = s.mem ∨ ∃ a w, Safety.writeInProgress s = some (a, w) ∧ m = s.mem.writeWord a w)

section
variable {s : State}

theorem accessAbandoned_refl (s : State) : AccessAbandoned s s := ⟨s.mem, s.free, rfl, .inl rfl⟩

theorem accessAbandoned_memAbandon {a : Nat} {w : Word} (h : Safety.writeInProgress s = some (a, w)) :
    AccessAbandoned s (s.memAbandon a w) := by
  unfold State.memAbandon
  split
  · exact ⟨_, s.free + 1, rfl, .inr ⟨a, w, h, rfl⟩⟩
  · exact ⟨s.mem, s.free + 1, rfl, .inl rfl⟩

/-- The host access at memory: a write, a window write, or the write of a read-modify-write (R149). -/
theorem accessAbandoned_abandonJob {a : HostAccess} {job : HostJob} (ho : s.arbiter.owner = some .upstream)
    (hc : s.port.current = some { acc := a, phase := .atMemory job }) :
    AccessAbandoned s (s.abandonJob a job) := by
  cases job with
  | read => exact accessAbandoned_refl s
  | write => exact accessAbandoned_memAbandon (by simp only [Safety.writeInProgress, ho, hc]; rfl)
  | windowWrite offset =>
    exact accessAbandoned_memAbandon (by simp only [Safety.writeInProgress, ho, hc]; rfl)
  | rmwRead => exact accessAbandoned_refl s
  | rmwWrite merged =>
    exact accessAbandoned_memAbandon (by simp only [Safety.writeInProgress, ho, hc]; rfl)
  | suppressed reason => exact accessAbandoned_refl s

theorem accessAbandoned_abandonWriter (ho : s.arbiter.owner = some .writer) :
    AccessAbandoned s s.abandonWriter := by
  unfold State.abandonWriter
  split
  · next hw hl => exact accessAbandoned_memAbandon (by simp only [Safety.writeInProgress, ho, hw, hl]; rfl)
  · exact accessAbandoned_refl s

theorem accessAbandoned_abandonStatus (ho : s.arbiter.owner = some .status) :
    AccessAbandoned s s.abandonStatus := by
  unfold State.abandonStatus
  split
  · next hr => exact accessAbandoned_memAbandon (by simp only [Safety.writeInProgress, ho, hr]; rfl)
  · exact accessAbandoned_refl s

theorem current_of_upstreamJob {a : HostAccess} {job : HostJob} (h : s.upstreamJob = some (a, job)) :
    s.port.current = some { acc := a, phase := .atMemory job } := by
  unfold State.upstreamJob at h
  split at h
  · next hc =>
    obtain ⟨rfl, rfl⟩ := Prod.mk.inj (Option.some.inj h)
    exact hc
  · cases h

/-- By the requester whose access is in progress (R143, R144, R196). -/
theorem accessAbandoned_abandonAccess (s : State) : AccessAbandoned s s.abandonAccess := by
  unfold State.abandonAccess
  split
  · exact accessAbandoned_refl s
  · next ho =>
    split
    · next hjob => exact accessAbandoned_abandonJob ho (current_of_upstreamJob hjob)
    · exact accessAbandoned_refl s
  · next ho => exact accessAbandoned_abandonWriter ho
  · exact accessAbandoned_refl s
  · next ho => exact accessAbandoned_abandonStatus ho

end

/-! ### The losses and the return (R196, R197, R200) -/

/-- The state that a main supply loss leaves of one whose memory access has been abandoned, the domain kept
(R143, R196). -/
def mainLost (s : State) (interval : Option PowerLoss) (backupRestored : Bool) : State :=
  let u := s.dropPort.clearTransients
  { u with supply := { u.supply with
      part := .retain, mainPresent := false, stableWait := false, resetTime := none
      backupPresent := s.supply.backupPresent || backupRestored, powerLoss := interval } }

/-- The domain goes with the main supply unless the backup supply is there (R197). -/
theorem loseMainWith_eq (s : State) (interval : Option PowerLoss) (backupRestored : Bool) :
    s.loseMainWith interval backupRestored =
      if (s.abandonAccess.supply.backupPresent || backupRestored) = true then
        mainLost s.abandonAccess interval backupRestored
      else (mainLost s.abandonAccess interval backupRestored).loseDomain := rfl

section
variable {s : State}

theorem exec_mainSupplyLoss (h : s.supply.mainPresent = true) (backup : Bool) :
    exec (.mainSupplyLoss backup) s = .next ((s.loseMain backup).settle s) := if_pos h

theorem loseDomain_held (h : s.supply.domainHeld = true) : s.loseDomain =
    { s with
      supply := { s.supply with domainHeld := false }
      alert := { s.alert with line := Config.freeBit s.free }
      free := s.free + 1 } := if_pos h

theorem loseDomain_gone (h : s.supply.domainHeld = false) : s.loseDomain = s :=
  if_neg (by simp [h])

/-- With main supply present a backup supply loss changes its own line alone (R197). -/
theorem loseBackup_main (h : s.supply.mainPresent = true) :
    s.loseBackup = { s with supply := { s.supply with backupPresent := false } } := if_pos h

theorem loseBackup_alone (h : s.supply.mainPresent = false) :
    s.loseBackup = State.loseDomain { s with supply := { s.supply with backupPresent := false } } :=
  if_neg (by simp [h])

end

/-- Settles O55: a main supply loss with the domain kept or lost, a backup supply loss, and the return. -/
theorem supplyLossAndReturn : Obligations.SupplyLossAndReturn := by
  constructor
  · intro s backup hmain fed
    obtain ⟨m, free, habandon, hleft⟩ := accessAbandoned_abandonAccess s
    refine ⟨m, free, hleft, ?_⟩
    intro u v
    have hloss : s.loseMain backup = if fed = true then v else v.loseDomain := by
      rw [State.loseMain, loseMainWith_eq, habandon]
      rfl
    rw [exec_mainSupplyLoss hmain, hloss]
    refine ⟨fun hkept => ?_, fun hunfed hheld => ⟨Config.freeBit v.free, ?_⟩⟩
    · rcases hkept with hfed | hgone
      · rw [if_pos hfed]
      · rw [loseDomain_gone (s := v) hgone, ite_self]
    · rw [if_neg (by simp [hunfed]), loseDomain_held (s := v) hheld]
  · intro s u
    refine ⟨fun hmain => ?_, fun hmain hheld => ⟨Config.freeBit u.free, ?_⟩, fun hp hmain => ?_⟩
    · change Host.Outcome.next (s.loseBackup.settle s) = _
      rw [loseBackup_main hmain]
    · change Host.Outcome.next (s.loseBackup.settle s) = _
      rw [loseBackup_alone hmain, loseDomain_held (s := u) hheld]
    · exact if_pos ⟨hp, hmain⟩

end Sys2Proof
end

section
/-! One step of the block: which command it runs (log 9). -/

namespace Sys2Proof

open Machine

/-- The front command leaves the queue before it runs, so it meets the queue's rest. -/
theorem step_pending_cons {s : State} {c : Instr} {rest : List Instr} (h : s.pending = c :: rest) :
    step s = exec c { s with pending := rest } := by
  simp only [step, h]

/-- With no command queued the block idles (log 9). -/
theorem step_pending_nil {s : State} (h : s.pending = []) : step s = .next s := by
  simp only [step, h]

/-- Settles O1, by the two shapes of the queue: a command at its front, or none. -/
theorem stepRunsFrontCommand : Obligations.StepRunsFrontCommand :=
  fun _ => ⟨fun _ _ hfront => step_pending_cons hfront, fun hempty => step_pending_nil hempty⟩

end Sys2Proof
end
